-- ==== Sys2Proof/Word.lean ====
section
/-! DEFINITION. The word types of the core: a byte of a frame or buffer, a 16-bit host word, a 10-bit host word
address (00_scope.md R9, 20_memory.md R61). -/

namespace Sys2Proof

/-- `u8` of R9: one byte of the wire or of a buffer. -/
abbrev Byte := BitVec 8

/-- `u16` of R9: one host word, one frame field. -/
abbrev Word := BitVec 16

/-- A host word address, 10 bits (R61): no other address bit exists. -/
abbrev HostAddr := BitVec 10

end Sys2Proof
end

