-- ==== Sys2Proof/Config.lean ====
section
/-! DEFINITION. The parameters of 00_scope.md R7 at their defaults, and the free values of the model: constants
with no body, applied to a counter of the State, for what the spec leaves to "any value"
(93_implementation_defined.md U1, U7). -/

namespace Sys2Proof.Config

/-- `CRC_POLY`, reflected form (R7, R101). -/
def crcPoly : Word := 0xA001#16
/-- `CRC_INIT` (R7, R100). -/
def crcInit : Word := 0xFFFF#16
/-- `SLAVE_RESET` (R7, R28). -/
def slaveReset : Byte := 1#8
/-- `TIMEOUT_RESET` in ticks (R7, R31). -/
def timeoutReset : Word := 1000#16
/-- `GUARD_RESET` in ticks (R7, R32). -/
def guardReset : Byte := 4#8
/-- `GAP_RESET` in ticks (R7, R33). -/
def gapReset : Byte := 4#8
/-- `TXBUF_SIZE` in bytes (R7). -/
def txbufSize : Nat := 256
/-- `RXBUF_SIZE` in bytes (R7). -/
def rxbufSize : Nat := 256
/-- `REGVAL_SIZE` in words (R7). -/
def regvalSize : Nat := 125
/-- `MAX_READ_COUNT` in registers (R7, R135). -/
def maxReadCount : Nat := 125
/-- The shortest frame the decoder accepts, in bytes (R90). -/
def minFrame : Nat := 5
/-- The longest frame the core can hold, in bytes (R90). -/
def maxFrame : Nat := 256

/-- FREE VALUE (U1, log 4). What a byte of TXBUF or RXBUF that nothing has written since the last reset reads as:
the first argument is the number of resets, the second the host address of the byte. -/
opaque unwrittenByte : Nat → Nat → Byte

/-- FREE VALUE (U1, log 4). What a word of REGVAL that nothing has written since the last reset reads as. -/
opaque unwrittenWord : Nat → Nat → Word

/-- FREE VALUE (U7, log 3). The PHY's answer to the n-th `phy.open` draw that no listed answer settles, for a port. -/
opaque phyOpenAnswer : Nat → Word → Bool

end Sys2Proof.Config
end

