-- ==== Sys2Proof/Machine/Operands.lean ====
section
/-! DEFINITION. Operand assembly: splitting and assembling the fields of a frame and of a command word
(00_scope.md R9, 30_encoding.md R81, R88). -/

namespace Sys2Proof.Machine

/-- `hi8(v)` of R9. -/
def hi8 (v : Word) : Byte := v.extractLsb' 8 8

/-- `lo8(v)` of R9. -/
def lo8 (v : Word) : Byte := v.extractLsb' 0 8

/-- `be16(x, y)` of R9: the big-endian word of a first byte and a second byte. -/
def be16 (x y : Byte) : Word := (x.setWidth 16 <<< 8) ||| y.setWidth 16

/-- `bs[i]` of R9. The rules read it only at an index inside the sequence. -/
def byteAt (bs : List Byte) (i : Nat) : Byte := bs.getD i 0#8

/-- Register k of a 0x03 response, "a big-endian 16-bit word starting at offset 3" (R85, R115). -/
def responseWord (bs : List Byte) (k : Nat) : Word := be16 (byteAt bs (3 + 2 * k)) (byteAt bs (4 + 2 * k))

/-- The big-endian bytes of a sequence of words, first word first (R66, R85). -/
def wordBytes : List Word → List Byte
  | [] => []
  | w :: ws => hi8 w :: lo8 w :: wordBytes ws

/-- OP of a command word (R81). -/
def opOf (w : Word) : BitVec 4 := w.extractLsb' 0 4

/-- The illegal command words of R82: bits 15:4 not all 0, or OP 0xB to 0xF. -/
def isIllegal (w : Word) : Bool := w.extractLsb' 4 12 != 0#12 || BitVec.ule 0xB#4 (opOf w)

end Sys2Proof.Machine
end

