-- ==== Sys2Proof/Machine/Crc16.lean ====
section
/-! DEFINITION. The CRC16/Modbus function, its append and its check (40_crc16.md R100, R101, R103, R104), and the
layouts of the frames that carry it (30_encoding.md R83 to R87). -/

namespace Sys2Proof.Machine

/-- One of the 8 iterations of R101: "if LSB set, shift right and XOR with 0xA001, else shift right". -/
def crcShift (c : Word) : Word := if c.getLsbD 0 then (c >>> 1) ^^^ Config.crcPoly else c >>> 1

/-- n iterations of `crcShift`. -/
def crcShifts : Nat → Word → Word
  | 0, c => c
  | n + 1, c => crcShifts n (crcShift c)

/-- `crc_byte` of R101. -/
def crcByte (c : Word) (b : Byte) : Word := crcShifts 8 (c ^^^ b.setWidth 16)

/-- `CRC16` of R100: the bytes in sequence order from the initial value. -/
def crc16 (bs : List Byte) : Word := bs.foldl crcByte Config.crcInit

/-- `with_crc` of R103: the CRC appended low byte first. -/
def withCrc (bs : List Byte) : List Byte := bs ++ [lo8 (crc16 bs), hi8 (crc16 bs)]

/-- `crc_ok` of R104. -/
def crcOk (bs : List Byte) : Bool :=
  be16 (byteAt bs (bs.length - 1)) (byteAt bs (bs.length - 2)) == crc16 (bs.take (bs.length - 2))

/-- The first six bytes of the layouts of R84, R86 and R87, `hdr` of R111. -/
def header (slave func : Byte) (x y : Word) : List Byte := [slave, func, hi8 x, lo8 x, hi8 y, lo8 y]

/-- The 8-byte frame of R84 (function 0x03 request) and of R86 and R87 (function 0x06 request and response). -/
def shortFrame (slave func : Byte) (x y : Word) : List Byte := withCrc (header slave func x y)

/-- The 0x03 response of R85. -/
def readResponse (slave : Byte) (regs : List Word) : List Byte :=
  withCrc ([slave, 0x03#8, BitVec.ofNat 8 (2 * regs.length)] ++ wordBytes regs)

end Sys2Proof.Machine
end

