-- ==== Sys2Proof/Machine/State.lean ====
section
/-! DEFINITION. The state of the core as 10_state.md gives it: (a) the host-visible registers, (b) the buffers,
(c) the arbiter's hidden state (R20), and beside them the model's own record of the environment: the events it will
present, and the outputs the core has given (R45). -/

namespace Sys2Proof.Machine

/-- PHASE of R41. Its values 5, 6 and 7 are never held, so they have no constructor. -/
inductive Phase where
  | idle | guard | tx | wait | accum
  deriving DecidableEq, Repr

/-- XOP of R42: the command that owns the transaction in flight. -/
inductive XOp where
  | none | read | write | raw
  deriving DecidableEq, Repr

/-- The codes of 60_exceptions.md R170. `ok` is also the code 0 "none" of REJECT (R27). -/
inductive Code where
  | ok | notConnected | alreadyOpen | portUnavailable | writeFailed | responseTimeout | malformedFrame
  | crcMismatch | writeVerificationFailed | busy | outOfRange | illegalCommand
  deriving DecidableEq, Repr

/-- The fields of RESULT (R26) and of REJECT (R27): OP in bits 7:4, CODE in bits 3:0. -/
structure Record where
  op : BitVec 4
  code : Code
  deriving DecidableEq, Repr

/-- The host-visible registers of R23, each as wide as the field it stores; what a field reads as 0 is not stored.
STATUS is stored as the flags that are not derived (R25). -/
structure Regs where
  /-- STATUS.CONN (R25). -/
  conn : Bool
  /-- STATUS.DONE (R25). -/
  done : Bool
  /-- STATUS.LATE (R25). -/
  late : Bool
  /-- STATUS.OVF (R25). -/
  ovf : Bool
  /-- STATUS.ABORTED (R25). -/
  aborted : Bool
  /-- RESULT (R26). -/
  result : Record
  /-- REJECT (R27). -/
  reject : Record
  /-- SLAVE[7:0] (R28). -/
  slave : Byte
  /-- ARG0 (R29). -/
  arg0 : Word
  /-- ARG1 (R30). -/
  arg1 : Word
  /-- TIMEOUT (R31). -/
  timeout : Word
  /-- GUARD[7:0] (R32). -/
  guard : Byte
  /-- GAP[7:0] (R33). -/
  gap : Byte
  /-- TXLEN[8:0] (R34). -/
  txlen : BitVec 9
  /-- RXLEN[8:0] (R35). -/
  rxlen : BitVec 9
  /-- CRC (R36). -/
  crc : Word
  /-- BYTECNT[7:0] (R37). -/
  bytecnt : Byte
  /-- NREGS[6:0] (R38). -/
  nregs : BitVec 7
  /-- ECHO_ADDR (R39). -/
  echoAddr : Word
  /-- ECHO_VALUE (R39). -/
  echoValue : Word
  /-- RXHDR (R43). -/
  rxhdr : Word
  deriving DecidableEq, Repr

/-- A buffer: index and value pairs, indexes strictly rising, an unlisted index holding no value (log 4). -/
abbrev Memory (α : Type) := List (Nat × α)

/-- The buffers of R40, each by its own index. -/
structure Buffers where
  /-- TXBUF, 256 bytes. -/
  tx : List Host.Cell
  /-- RXBUF, 256 bytes. -/
  rx : List Host.Cell
  /-- REGVAL, 125 words. -/
  regval : List (Nat × Word)
  deriving DecidableEq, Repr

/-- PHASE (R41) and the hidden state of R42. -/
structure Arbiter where
  phase : Phase
  xop : XOp
  txptr : BitVec 9
  gcnt : Byte
  tocnt : Word
  gapcnt : Byte
  port : Word
  deriving DecidableEq, Repr

/-- The events of R45, as the environment presents them. -/
inductive Event where
  /-- `host_write(addr, data)`. -/
  | hostWrite (addr : HostAddr) (data : Word)
  /-- `host_read(addr)`. -/
  | hostRead (addr : HostAddr)
  /-- `tick`. -/
  | tick
  /-- `rx_byte(b)`. -/
  | rxByte (b : Byte)
  /-- `tx_take`. -/
  | txTake
  /-- `tx_error`. -/
  | txError
  /-- `link_lost`. -/
  | linkLost
  /-- `rst`. -/
  | rst
  /-- A whole sequence of `rx_byte` events with nothing between them: `rx B0 B1 …` of R92 (log 8). -/
  | rxFrame (bytes : List Byte)
  /-- The PHY takes a whole frame the core offers: `take n` of R92 for the n bytes named (log 7). -/
  | takeFrame (bytes : List Byte)
  /-- `port ok` or `port fail` of R92: the answer to the next `phy.open` draw. -/
  | portAnswer (ok : Bool)
  deriving DecidableEq, Repr

/-- The outputs of the core (R10, R45), in the order it gives them. -/
inductive Output where
  /-- `phy.send(b)`: the PHY took byte b. -/
  | send (b : Byte)
  /-- `phy.open(p)` and the PHY's answer. -/
  | openPort (port : Word) (ok : Bool)
  /-- `phy.close()`. -/
  | closePort
  /-- The data a host read returned. -/
  | readData (addr : HostAddr) (data : Word)
  deriving DecidableEq, Repr

/-- The model's own record of the environment; none of it is state of the core (R20). -/
structure Env where
  /-- The events to come, clock by clock; inside one clock their order is 60_exceptions.md R178's. -/
  clocks : List (List Event)
  /-- Answers the PHY has ready for the next `phy.open` draws. -/
  phyAnswers : List Bool
  /-- How many draws took a free value. -/
  draws : Nat
  /-- How many resets have happened. -/
  epoch : Nat
  /-- What the core has put out, oldest first. -/
  trace : List Output
  deriving DecidableEq, Repr

/-- The state of the machine. -/
structure State where
  regs : Regs
  bufs : Buffers
  arb : Arbiter
  env : Env
  deriving DecidableEq, Repr

/-- Why the machine stops with a fault: never. The core raises no traps and no access traps (60_exceptions.md R180,
R182), and its errors are result codes (R170); so the type has no constructor. Safe: nothing is cut short. -/
inductive Fault where
  deriving DecidableEq, Repr

/-- Why an instruction has no meaning. -/
inductive Refusal where
  /-- Raised by an arm of exec whose instruction has no meaning yet; no arm is left. Safe: the machine stops. -/
  | notModelled (mnemonic : String)
  deriving DecidableEq, Repr

/-- The registers after reset (R23, R190). -/
def Regs.reset : Regs where
  conn := false
  done := false
  late := false
  ovf := false
  aborted := false
  result := ⟨0#4, .ok⟩
  reject := ⟨0#4, .ok⟩
  slave := Config.slaveReset
  arg0 := 0#16
  arg1 := 0#16
  timeout := Config.timeoutReset
  guard := Config.guardReset
  gap := Config.gapReset
  txlen := 0#9
  rxlen := 0#9
  crc := 0xFFFF#16
  bytecnt := 0#8
  nregs := 0#7
  echoAddr := 0#16
  echoValue := 0#16
  rxhdr := 0#16

/-- The hidden state after reset (R41, R42, R190). -/
def Arbiter.reset : Arbiter where
  phase := .idle
  xop := .none
  txptr := 0#9
  gcnt := 0#8
  tocnt := 0#16
  gapcnt := 0#8
  port := 0#16

/-- The buffers after reset: nothing is known to have been written (R191, U1). -/
def Buffers.reset : Buffers where
  tx := []
  rx := []
  regval := []

/-- The machine right after the power-on reset (R190), with no event waiting (log 5, log 10). -/
def State.reset : State where
  regs := Regs.reset
  bufs := Buffers.reset
  arb := Arbiter.reset
  env := ⟨[], [], 0, 0, []⟩

end Sys2Proof.Machine
end

