-- ==== Sys2Proof/Machine/Flags.lean ====
section
/-! DEFINITION. The numbers the host sees of codes, phases and records, and the STATUS word with its derived bits
(10_state.md R25 to R27, R41; 60_exceptions.md R170). -/

namespace Sys2Proof.Machine

/-- The code numbers of R170. -/
def Code.bits : Code → BitVec 4
  | .ok => 0
  | .notConnected => 1
  | .alreadyOpen => 2
  | .portUnavailable => 3
  | .writeFailed => 4
  | .responseTimeout => 5
  | .malformedFrame => 6
  | .crcMismatch => 7
  | .writeVerificationFailed => 8
  | .busy => 9
  | .outOfRange => 10
  | .illegalCommand => 11

/-- The PHASE encoding of R41. -/
def Phase.bits : Phase → BitVec 3
  | .idle => 0
  | .guard => 1
  | .tx => 2
  | .wait => 3
  | .accum => 4

/-- The opcode of the command that owns a transaction (R173: READ 0x7, WRITE 0x8, RAW 0x9). For NONE there is no
command; `end_xact` never runs then (log 12). -/
def XOp.op : XOp → BitVec 4
  | .none => 0
  | .read => 7
  | .write => 8
  | .raw => 9

/-- RESULT and REJECT as words: `(zext_16(op) << 4) | zext_16(code)` (R173, R174). -/
def Record.word (r : Record) : Word := (r.op.setWidth 16 <<< 4) ||| r.code.bits.setWidth 16

/-- BUSY = (PHASE ≠ IDLE) (R25, R41). -/
def State.busy (s : State) : Bool := s.arb.phase != .idle

/-- ERR = (RESULT.CODE ≠ 0) (R25). -/
def State.err (s : State) : Bool := s.regs.result.code.bits != 0

/-- REJ = (REJECT.CODE ≠ 0) (R25). -/
def State.rej (s : State) : Bool := s.regs.reject.code.bits != 0

/-- A flag at bit i of a word. -/
def flagBit (b : Bool) (i : Nat) : Word := if b then 1#16 <<< i else 0#16

/-- The STATUS word of R25; bits 15:11 read as 0. -/
def State.status (s : State) : Word :=
  flagBit s.busy 0 ||| flagBit s.regs.conn 1 ||| flagBit s.regs.done 2 ||| flagBit s.err 3 ||| flagBit s.rej 4
    ||| flagBit s.regs.late 5 ||| flagBit s.regs.ovf 6 ||| flagBit s.regs.aborted 7
    ||| (s.arb.phase.bits.setWidth 16 <<< 8)

end Sys2Proof.Machine
end

