-- ==== Sys2Proof/Machine/Ops.lean ====
section
/-! DEFINITION. The shared operations over the state: buffers, host accesses (20_memory.md R62 to R65), and the
command primitives `finish`, `reject`, `accept` and `end_xact`, the core's form of taking an exception and of
acknowledging one (60_exceptions.md R172 to R175, R180, R181; 42_transaction.md R138). -/

namespace Sys2Proof.Machine

/-! ## Buffers in canonical form -/

/-- The canonical form of a buffer: its indexes strictly rise. An unlisted index holds no value, so no entry can
equal what an unlisted index holds. -/
abbrev Memory.wf {α : Type} (m : Memory α) : Prop := m.Pairwise (fun a b => a.1 < b.1)

/-- The value an index holds, if something has written it since the last reset. -/
def Memory.read {α : Type} : Memory α → Nat → Option α
  | [], _ => none
  | (j, v) :: m, i => if i = j then some v else Memory.read m i

/-- The buffer with v at index i. -/
def Memory.write {α : Type} : Memory α → Nat → α → Memory α
  | [], i, v => [(i, v)]
  | (j, w) :: m, i, v =>
    if i < j then (i, v) :: (j, w) :: m
    else if i = j then (i, v) :: m
    else (j, w) :: Memory.write m i v

/-- The buffer with the values of a sequence from index i on. -/
def Memory.writeAll {α : Type} (m : Memory α) (i : Nat) : List α → Memory α
  | [] => m
  | v :: vs => Memory.writeAll (m.write i v) (i + 1) vs

/-- TXBUF[i]; a byte nothing has written since the last reset is a free value (U1, log 4). -/
def State.txByte (s : State) (i : Nat) : Byte :=
  (Memory.read s.bufs.tx i).getD (Config.unwrittenByte s.env.epoch (0x100 + i))

/-- RXBUF[i]; a byte nothing has written since the last reset is a free value (U1, log 4). -/
def State.rxByte (s : State) (i : Nat) : Byte :=
  (Memory.read s.bufs.rx i).getD (Config.unwrittenByte s.env.epoch (0x200 + i))

/-- REGVAL[i]; a word nothing has written since the last reset is a free value (U1, log 4). -/
def State.regvalWord (s : State) (i : Nat) : Word :=
  (Memory.read s.bufs.regval i).getD (Config.unwrittenWord s.env.epoch (0x300 + i))

/-- `[TXBUF[0], ..., TXBUF[TXLEN-1]]` (R102). -/
def State.txBytes (s : State) : List Byte := (List.range s.regs.txlen.toNat).map s.txByte

/-- `[RXBUF[0], ..., RXBUF[RXLEN-1]]` (R113, R138). -/
def State.rxBytes (s : State) : List Byte := (List.range s.regs.rxlen.toNat).map s.rxByte

/-! ## Host accesses -/

/-- The value a host read of an address returns: the map of R23, reserved addresses and CMD reading 0 (R62, R65). -/
def State.peek (s : State) (addr : HostAddr) : Word :=
  let a := addr.toNat
  if a = 0x000 then 0#16
  else if a = 0x001 then s.status
  else if a = 0x002 then s.regs.result.word
  else if a = 0x003 then s.regs.reject.word
  else if a = 0x004 then s.regs.slave.setWidth 16
  else if a = 0x005 then s.regs.arg0
  else if a = 0x006 then s.regs.arg1
  else if a = 0x007 then s.regs.timeout
  else if a = 0x008 then s.regs.guard.setWidth 16
  else if a = 0x009 then s.regs.gap.setWidth 16
  else if a = 0x00A then s.regs.txlen.setWidth 16
  else if a = 0x00B then s.regs.rxlen.setWidth 16
  else if a = 0x00C then s.regs.crc
  else if a = 0x00D then s.regs.bytecnt.setWidth 16
  else if a = 0x00E then s.regs.nregs.setWidth 16
  else if a = 0x00F then s.regs.echoAddr
  else if a = 0x010 then s.regs.echoValue
  else if a = 0x011 then s.regs.rxhdr
  else if a < 0x100 then 0#16
  else if a < 0x200 then (s.txByte (a - 0x100)).setWidth 16
  else if a < 0x300 then (s.rxByte (a - 0x200)).setWidth 16
  else if a < 0x37D then s.regvalWord (a - 0x300)
  else 0#16

/-- One output of the core, recorded after the others. -/
def State.emit (s : State) (o : Output) : State := { s with env.trace := s.env.trace ++ [o] }

/-- `host_read(addr)`: the data is an output and nothing of the core changes (R62, R70). -/
def State.hostRead (s : State) (addr : HostAddr) : State := s.emit (.readData addr (s.peek addr))

/-- `min(v, 256)`, what TXLEN and RXLEN store (R34, R35). -/
def clampLen (v : Word) : BitVec 9 := if 256 ≤ v.toNat then 256#9 else v.setWidth 9

/-- `max(v[7:0], 1)`, what GAP stores (R33). -/
def clampGap (v : Word) : Byte := if lo8 v = 0#8 then 1#8 else lo8 v

/-- Store v at an address per the field rule of its register (R28 to R35, R40); read-only and reserved addresses
ignore it (R63, R65). A write to CMD is a command issue and is not stored (R24). -/
def State.poke (s : State) (addr : HostAddr) (v : Word) : State :=
  let a := addr.toNat
  if a = 0x004 then { s with regs.slave := lo8 v }
  else if a = 0x005 then { s with regs.arg0 := v }
  else if a = 0x006 then { s with regs.arg1 := v }
  else if a = 0x007 then { s with regs.timeout := v }
  else if a = 0x008 then { s with regs.guard := lo8 v }
  else if a = 0x009 then { s with regs.gap := clampGap v }
  else if a = 0x00A then { s with regs.txlen := clampLen v }
  else if a = 0x00B then { s with regs.rxlen := clampLen v }
  else if a < 0x100 then s
  else if a < 0x200 then { s with bufs.tx := Memory.write s.bufs.tx (a - 0x100) (lo8 v) }
  else if a < 0x300 then { s with bufs.rx := Memory.write s.bufs.rx (a - 0x200) (lo8 v) }
  else s

/-- `host_write(addr, data)` to an address other than CMD: ignored while BUSY = 1 (R63, R64). -/
def State.hostWrite (s : State) (addr : HostAddr) (v : Word) : State := if s.busy then s else s.poke addr v

/-! ## Completion, rejection, acceptance -/

/-- `finish(code)` for the command op (R173): the completion record, the core's form of trap entry (R180). -/
def State.finish (s : State) (op : BitVec 4) (code : Code) : State :=
  { s with regs.result := ⟨op, code⟩, regs.done := true }

/-- `reject(v, code)`, op being v[3:0] (R174). -/
def State.reject (s : State) (op : BitVec 4) (code : Code) : State := { s with regs.reject := ⟨op, code⟩ }

/-- `accept(op)` (R175): the acknowledge, the core's form of trap return (R181). -/
def State.accept (s : State) : State :=
  { s with
    regs.done := false
    regs.late := false
    regs.ovf := false
    regs.aborted := false
    regs.reject := ⟨0#4, .ok⟩ }

/-- The part of `issue_command` (R172) that every command other than NOP and ABORT shares: Busy, or accept and run. -/
def State.issue (s : State) (op : BitVec 4) (run : State → State) : State :=
  if s.busy then s.reject op .busy else run s.accept

/-- The hidden state once no transaction is in flight (R138); PORT keeps its value. -/
def Arbiter.ended (a : Arbiter) : Arbiter :=
  { a with phase := .idle, xop := .none, gcnt := 0#8, tocnt := 0#16, gapcnt := 0#8, txptr := 0#9 }

/-- `end_xact(code)` (R138). -/
def State.endXact (s : State) (code : Code) : State :=
  { s.finish s.arb.xop.op code with arb := s.arb.ended }

/-! ## Encoding a request -/

/-- `enc_frame(f)` (R111), shared by ENCRD, ENCWR, READ and WRITE. -/
def State.encFrame (s : State) (func : Byte) : State :=
  let hdr := header s.regs.slave func s.regs.arg0 s.regs.arg1
  { s with
    bufs.tx := Memory.writeAll s.bufs.tx 0 (withCrc hdr)
    regs.txlen := 8#9
    regs.crc := crc16 hdr }

/-! ## Decoding a response -/

/-- `decode_03(bs)` (R115). -/
def State.decode03 (s : State) (bs : List Byte) : Code × State :=
  let bc := byteAt bs 2
  if bs.length ≠ bc.toNat + 5 then (.malformedFrame, s)
  else if bc.getLsbD 0 then (.malformedFrame, s)
  else (.ok, { s with
    regs.bytecnt := bc
    bufs.regval := Memory.writeAll s.bufs.regval 0 ((List.range (bc.toNat / 2)).map (responseWord bs))
    regs.nregs := BitVec.ofNat 7 (bc.toNat / 2) })

/-- `decode_06(bs)` (R116). -/
def State.decode06 (s : State) (bs : List Byte) : Code × State :=
  if bs.length ≠ 8 then (.malformedFrame, s)
  else (.ok, { s with
    regs.echoAddr := be16 (byteAt bs 2) (byteAt bs 3)
    regs.echoValue := be16 (byteAt bs 4) (byteAt bs 5) })

/-- NREGS <- 0. -/
def State.clearNregs (s : State) : State := { s with regs.nregs := 0#7 }

/-- `decode_response(bs)` (R114, R117): the code, and the state with the decode outputs. -/
def State.decodeResponse (s : State) (bs : List Byte) : Code × State :=
  if bs.length < 5 then (.malformedFrame, s.clearNregs)
  else if !crcOk bs then (.crcMismatch, s.clearNregs)
  else
    let s' := { s.clearNregs with regs.rxhdr := be16 (byteAt bs 0) (byteAt bs 1) }
    if byteAt bs 1 = 0x03#8 then s'.decode03 bs
    else if byteAt bs 1 = 0x06#8 then s'.decode06 bs
    else (.malformedFrame, s')

end Sys2Proof.Machine
end

