-- ==== Sys2Proof/Machine/Codec.lean ====
section
/-! DEFINITION. The codec commands NOP, CRC, ENCRD, ENCWR, DECODE (40_crc16.md R102, 41_frame_codec.md R110 to R113)
and the illegal words (30_encoding.md R82). Each is the whole CMD write event (20_memory.md R69). -/

namespace Sys2Proof.Machine

/-- NOP: no effect in any phase (R110). -/
def execNop (s : State) : Host.Outcome State Fault Refusal := .next s

/-- CRC after acceptance (R102). -/
def State.runCrc (s : State) : State := State.finish { s with regs.crc := crc16 s.txBytes } 0x1#4 .ok

/-- CRC (R102). -/
def execCrc (s : State) : Host.Outcome State Fault Refusal := .next (s.issue 0x1#4 State.runCrc)

/-- ENCRD after acceptance (R111). -/
def State.runEncrd (s : State) : State := (s.encFrame 0x03#8).finish 0x2#4 .ok

/-- ENCRD (R111). -/
def execEncrd (s : State) : Host.Outcome State Fault Refusal := .next (s.issue 0x2#4 State.runEncrd)

/-- ENCWR after acceptance (R112). -/
def State.runEncwr (s : State) : State := (s.encFrame 0x06#8).finish 0x3#4 .ok

/-- ENCWR (R112). -/
def execEncwr (s : State) : Host.Outcome State Fault Refusal := .next (s.issue 0x3#4 State.runEncwr)

/-- DECODE after acceptance (R113). -/
def State.runDecode (s : State) : State :=
  let (code, t) := s.decodeResponse s.rxBytes
  t.finish 0x4#4 code

/-- DECODE (R113). -/
def execDecode (s : State) : Host.Outcome State Fault Refusal := .next (s.issue 0x4#4 State.runDecode)

/-- A word that is no command: rejected with IllegalCommand in every phase, changing nothing but REJECT
(R82, R172, R174). -/
def execIllegal (w : Word) (s : State) : Host.Outcome State Fault Refusal := .next (s.reject (opOf w) .illegalCommand)

end Sys2Proof.Machine
end

