-- ==== Sys2Proof/Machine/Connection.lean ====
section
/-! DEFINITION. The connection commands OPEN and CLOSE (42_transaction.md R130 to R132). -/

namespace Sys2Proof.Machine

/-- The PHY's answer to `phy.open(p)`: the next listed answer, else a free value (R10, R45, U7; log 3). -/
def State.phyAnswer (s : State) (p : Word) : Bool :=
  match s.env.phyAnswers with
  | ok :: _ => ok
  | [] => Config.phyOpenAnswer s.env.draws p

/-- The environment once a draw has been made. -/
def Env.drawn (e : Env) : Env :=
  match e.phyAnswers with
  | _ :: rest => { e with phyAnswers := rest }
  | [] => { e with draws := e.draws + 1 }

/-- `phy.open(p)`: the draw is made and the call recorded. -/
def State.phyOpen (s : State) (p : Word) : State :=
  State.emit { s with env := s.env.drawn } (.openPort p (s.phyAnswer p))

/-- OPEN after acceptance (R131). -/
def State.runOpen (s : State) : State :=
  if s.regs.conn then s.finish 0x5#4 .alreadyOpen
  else
    let p := s.regs.arg0
    let t := s.phyOpen p
    if s.phyAnswer p then State.finish { t with regs.conn := true, arb.port := p } 0x5#4 .ok
    else t.finish 0x5#4 .portUnavailable

/-- OPEN (R131). -/
def execOpen (s : State) : Host.Outcome State Fault Refusal := .next (s.issue 0x5#4 State.runOpen)

/-- CLOSE after acceptance (R132). -/
def State.runClose (s : State) : State :=
  let t := if s.regs.conn then { s.emit .closePort with regs.conn := false } else s
  t.finish 0x6#4 .ok

/-- CLOSE (R132). -/
def execClose (s : State) : Host.Outcome State Fault Refusal := .next (s.issue 0x6#4 State.runClose)

end Sys2Proof.Machine
end

