-- ==== Sys2Proof/Machine/Arbiter.lean ====
section
/-! DEFINITION. The transaction arbiter: the phase machine's reaction to each event (42_transaction.md R134, R138 to
R152, R154, R155; 70_reset_and_hazards.md R190). One definition per phase and event of the table of R139. -/

namespace Sys2Proof.Machine

/-! ## Entering phases -/

/-- `enter_tx()` (R142). -/
def State.enterTx (s : State) : State := { s with arb.txptr := 0#9, arb.phase := .tx }

/-- `enter_wait()` (R145). -/
def State.enterWait (s : State) : State :=
  if s.regs.timeout = 0#16 then s.endXact .responseTimeout
  else { s with arb.tocnt := s.regs.timeout, arb.phase := .wait }

/-- Phase ACCUM with the gap timer started (R142, R145, R147). -/
def State.enterAccum (s : State) : State := { s with arb.gapcnt := s.regs.gap, arb.phase := .accum }

/-- `start_xact(op)` (R134). -/
def State.startXact (s : State) (op : XOp) : State :=
  let s' := { s with arb.xop := op, arb.txptr := 0#9, regs.rxlen := 0#9, regs.nregs := 0#7 }
  if s'.regs.guard = 0#8 then s'.enterTx
  else { s' with arb.gcnt := s'.regs.guard, arb.phase := .guard }

/-! ## Completion checks -/

/-- `check_read(bs)` (R151). -/
def State.checkRead (s : State) (bs : List Byte) : Code × State :=
  match s.decodeResponse bs with
  | (.ok, t) =>
    if lo8 t.regs.rxhdr ≠ 0x03#8 then (.malformedFrame, t.clearNregs)
    else if t.regs.nregs.setWidth 16 ≠ t.regs.arg1 then (.malformedFrame, t.clearNregs)
    else (.ok, t)
  | (c, t) => (c, t)

/-- `check_write(bs)` (R152). -/
def State.checkWrite (s : State) (bs : List Byte) : Code × State :=
  match s.decodeResponse bs with
  | (.ok, t) =>
    if lo8 t.regs.rxhdr ≠ 0x06#8 then (.malformedFrame, t.clearNregs)
    else if t.regs.echoAddr ≠ t.regs.arg0 ∨ t.regs.echoValue ≠ t.regs.arg1 then (.writeVerificationFailed, t)
    else (.ok, t)
  | (c, t) => (c, t)

/-- `check_raw(bs)` (R154). -/
def checkRaw (bs : List Byte) : Code :=
  if bs.length < 5 then .malformedFrame
  else if !crcOk bs then .crcMismatch
  else .ok

/-- The checks at the end of a burst that fits RXBUF, by the command that owns it (R138, R151, R152, R154). -/
def State.burstCheck (s : State) (bs : List Byte) : Code × State :=
  match s.arb.xop with
  | .read => s.checkRead bs
  | .write => s.checkWrite bs
  | .raw => (checkRaw bs, s)
  | .none => (checkRaw bs, s)

/-- `complete_xact()` (R138). -/
def State.completeXact (s : State) : State :=
  if s.regs.ovf then s.endXact .malformedFrame
  else
    let (code, t) := s.burstCheck s.rxBytes
    t.endXact code

/-! ## `tick` -/

/-- `tick` in GUARD (R140). -/
def State.tickGuard (s : State) : State :=
  let t := { s with arb.gcnt := s.arb.gcnt - 1#8 }
  if t.arb.gcnt = 0#8 then t.enterTx else t

/-- `tick` in WAIT (R145). -/
def State.tickWait (s : State) : State :=
  let t := { s with arb.tocnt := s.arb.tocnt - 1#16 }
  if t.arb.tocnt = 0#16 then t.endXact .responseTimeout else t

/-- `tick` in ACCUM (R148). -/
def State.tickAccum (s : State) : State :=
  let t := { s with arb.gapcnt := s.arb.gapcnt - 1#8 }
  if t.arb.gapcnt = 0#8 then t.completeXact else t

/-- `tick` (R139, R150). -/
def State.onTick (s : State) : State :=
  match s.arb.phase with
  | .idle => s
  | .guard => s.tickGuard
  | .tx => s
  | .wait => s.tickWait
  | .accum => s.tickAccum

/-- `tick n` (R92): n `tick` events. -/
def State.tickMany : Nat → State → State
  | 0, s => s
  | n + 1, s => State.tickMany n s.onTick

/-! ## `rx_byte` -/

/-- `rx_store(b)` (R147). -/
def State.rxStore (s : State) (b : Byte) : State :=
  if s.regs.rxlen.toNat < Config.rxbufSize then
    { s with
      bufs.rx := Memory.write s.bufs.rx s.regs.rxlen.toNat b
      regs.rxlen := s.regs.rxlen + 1#9 }
  else { s with regs.ovf := true }

/-- A received byte that is discarded (R141, R149). -/
def State.rxDiscard (s : State) : State := { s with regs.late := true }

/-- `rx_byte(b)` (R139, R141, R144, R145, R147, R149). -/
def State.onRxByte (s : State) (b : Byte) : State :=
  match s.arb.phase with
  | .idle => s.rxDiscard
  | .guard => s.rxDiscard
  | .tx => s.rxStore b
  | .wait => (s.rxStore b).enterAccum
  | .accum => (s.rxStore b).enterAccum

/-- `rx B0 B1 …` (R92): one `rx_byte` per byte, in order. -/
def State.onRxFrame (s : State) (bs : List Byte) : State := bs.foldl State.onRxByte s

/-! ## `tx_take` and `tx_error` -/

/-- The level output tx_valid (R45, R142). -/
def State.txValid (s : State) : Bool := s.arb.phase == .tx

/-- The level output tx_data, TXBUF[TXPTR] (R45, R142). -/
def State.txData (s : State) : Byte := s.txByte s.arb.txptr.toNat

/-- The rest of the frame, TXBUF[TXPTR..TXLEN), while tx_valid = 1; its head is tx_data (R45, R142). -/
def State.offered (s : State) : List Byte :=
  match s.arb.phase with
  | .tx => (List.range' s.arb.txptr.toNat (s.regs.txlen.toNat - s.arb.txptr.toNat)).map s.txByte
  | .idle => []
  | .guard => []
  | .wait => []
  | .accum => []

/-- `tx_take` in TX (R142); the byte taken is an output. -/
def State.takeTx (s : State) : State :=
  let s' := s.emit (.send s.txData)
  let t := { s' with arb.txptr := s'.arb.txptr + 1#9 }
  if t.arb.txptr = t.regs.txlen then
    if 0 < t.regs.rxlen.toNat then t.enterAccum else t.enterWait
  else t

/-- `tx_take` (R139, R142, R150). -/
def State.onTxTake (s : State) : State :=
  match s.arb.phase with
  | .tx => s.takeTx
  | .idle => s
  | .guard => s
  | .wait => s
  | .accum => s

/-- `tx_error` (R143, R150). -/
def State.onTxError (s : State) : State :=
  match s.arb.phase with
  | .tx => s.endXact .writeFailed
  | .idle => s
  | .guard => s
  | .wait => s
  | .accum => s

/-- `take n` (R92): n `tx_take` events. -/
def State.takeMany : Nat → State → State
  | 0, s => s
  | n + 1, s => State.takeMany n s.onTxTake

/-- The PHY takes a whole frame. It can take only what the core offers (R183): if the bytes still to be offered are
exactly the frame's, they are taken one after the other; otherwise nothing happens (log 7). -/
def State.onTakeFrame (s : State) (bs : List Byte) : State :=
  if s.offered = bs then State.takeMany bs.length s else s

/-! ## `link_lost` and `rst` -/

/-- `link_lost` (R155). -/
def State.onLinkLost (s : State) : State :=
  if s.regs.conn then
    let t := { s with regs.conn := false }
    if t.arb.xop ≠ .none then t.clearNregs.endXact .notConnected else t
  else s

/-- `rst` (R190, R191): every register and hidden field at its reset value, no result recorded, the PHY closed if it
was open, and the buffers' contents unspecified anew (log 4). The environment goes on. -/
def State.onReset (s : State) : State :=
  let t := if s.regs.conn then s.emit .closePort else s
  { State.reset with env := { t.env with epoch := s.env.epoch + 1 } }

end Sys2Proof.Machine
end

