-- ==== Sys2Proof/Machine/Transaction.lean ====
section
/-! DEFINITION. The transaction commands READ, WRITE, RAW and the cancellation ABORT (42_transaction.md R135 to R137,
R153). A transaction started here completes in a later event (20_memory.md R69). -/

namespace Sys2Proof.Machine

/-- READ after acceptance (R135). -/
def State.runRead (s : State) : State :=
  if !s.regs.conn then s.finish 0x7#4 .notConnected
  else if s.regs.arg1 = 0#16 ∨ Config.maxReadCount < s.regs.arg1.toNat then s.finish 0x7#4 .outOfRange
  else (s.encFrame 0x03#8).startXact .read

/-- READ (R135). -/
def execRead (s : State) : Host.Outcome State Fault Refusal := .next (s.issue 0x7#4 State.runRead)

/-- WRITE after acceptance (R136). -/
def State.runWrite (s : State) : State :=
  if !s.regs.conn then s.finish 0x8#4 .notConnected
  else (s.encFrame 0x06#8).startXact .write

/-- WRITE (R136). -/
def execWrite (s : State) : Host.Outcome State Fault Refusal := .next (s.issue 0x8#4 State.runWrite)

/-- RAW after acceptance (R137). -/
def State.runRaw (s : State) : State :=
  if !s.regs.conn then s.finish 0x9#4 .notConnected
  else if s.regs.txlen = 0#9 then s.finish 0x9#4 .outOfRange
  else s.startXact .raw

/-- RAW (R137). -/
def execRaw (s : State) : Host.Outcome State Fault Refusal := .next (s.issue 0x9#4 State.runRaw)

/-- ABORT in every phase (R153): never Busy, never accepted (R172, R175). -/
def State.runAbort (s : State) : State :=
  if s.arb.xop = .none then s
  else State.endXact { s with regs.aborted := true, regs.nregs := 0#7 } .responseTimeout

/-- ABORT (R153). -/
def execAbort (s : State) : Host.Outcome State Fault Refusal := .next s.runAbort

end Sys2Proof.Machine
end

