-- ==== Sys2Proof/Machine/Wire.lean ====
section
/-! DEFINITION. The wire frames as instructions: a request goes out when the PHY takes it from the core, a response
comes in when the line delivers its bytes (30_encoding.md R84 to R87, R92; log 7, log 8). -/

namespace Sys2Proof.Machine

/-- RDREQ: the PHY takes the request from the core in phase TX (R84, R142). -/
def execRdreq (slave : Byte) (start count : Word) (s : State) : Host.Outcome State Fault Refusal :=
  .next (s.onTakeFrame (shortFrame slave 0x03#8 start count))

/-- WRREQ: the PHY takes the request from the core in phase TX (R86, R142). -/
def execWrreq (slave : Byte) (addr value : Word) (s : State) : Host.Outcome State Fault Refusal :=
  .next (s.onTakeFrame (shortFrame slave 0x06#8 addr value))

/-- RDRSP: the response arrives byte by byte (R85, R92). -/
def execRdrsp (slave : Byte) (regs : List Word) (s : State) : Host.Outcome State Fault Refusal :=
  .next (s.onRxFrame (readResponse slave regs))

/-- WRRSP: the response arrives byte by byte (R87, R92). -/
def execWrrsp (slave : Byte) (addr value : Word) (s : State) : Host.Outcome State Fault Refusal :=
  .next (s.onRxFrame (shortFrame slave 0x06#8 addr value))

end Sys2Proof.Machine
end

