-- ==== Sys2Proof/Syntax.lean ====
section
/-! DEFINITION. The instructions of the core, one constructor per row of the opcode table: the eleven commands of
30_encoding.md R81, the illegal space of R82, and the four wire frames of R84 to R87. -/

namespace Sys2Proof

/-- One constructor per row of spec/opcode_table.json. The commands carry no operand: their operands are the
registers and buffers R81 names. The frames carry the fields of their layouts; the CRC is computed, never carried. -/
inductive Instr where
  /-- NOP, OP 0x0 (R110). -/
  | nop
  /-- CRC, OP 0x1 (R102). -/
  | crc
  /-- ENCRD, OP 0x2 (R111). -/
  | encrd
  /-- ENCWR, OP 0x3 (R112). -/
  | encwr
  /-- DECODE, OP 0x4 (R113). -/
  | decode
  /-- OPEN, OP 0x5 (R131). -/
  | openPort
  /-- CLOSE, OP 0x6 (R132). -/
  | closePort
  /-- READ, OP 0x7 (R135). -/
  | read
  /-- WRITE, OP 0x8 (R136). -/
  | write
  /-- RAW, OP 0x9 (R137). -/
  | raw
  /-- ABORT, OP 0xA (R153). -/
  | abort
  /-- ILLEGAL, the whole word written to CMD (R82). -/
  | illegal (word : Word)
  /-- RDREQ, a Read Holding Registers request on the wire (R84). -/
  | rdreq (slave : Byte) (start count : Word)
  /-- RDRSP, a Read Holding Registers response on the wire (R85). -/
  | rdrsp (slave : Byte) (regs : List Word)
  /-- WRREQ, a Write Single Register request on the wire (R86). -/
  | wrreq (slave : Byte) (addr value : Word)
  /-- WRRSP, a Write Single Register response on the wire (R87). -/
  | wrrsp (slave : Byte) (addr value : Word)
  deriving DecidableEq, Repr

end Sys2Proof
end

