-- ==== Sys2Proof/Machine/Dispatch.lean ====
section
/-! DEFINITION. One arm per instruction, each one call of its meaning. -/

namespace Sys2Proof.Machine

def exec (i : Instr) (s : State) : Host.Outcome State Fault Refusal :=
  match i with
  | .nop => Sys2Proof.Machine.execNop s
  | .crc => Sys2Proof.Machine.execCrc s
  | .encrd => Sys2Proof.Machine.execEncrd s
  | .encwr => Sys2Proof.Machine.execEncwr s
  | .decode => Sys2Proof.Machine.execDecode s
  | .openPort => Sys2Proof.Machine.execOpen s
  | .closePort => Sys2Proof.Machine.execClose s
  | .read => Sys2Proof.Machine.execRead s
  | .write => Sys2Proof.Machine.execWrite s
  | .raw => Sys2Proof.Machine.execRaw s
  | .abort => Sys2Proof.Machine.execAbort s
  | .illegal word => Sys2Proof.Machine.execIllegal word s
  | .rdreq slave start count => Sys2Proof.Machine.execRdreq slave start count s
  | .rdrsp slave regs => Sys2Proof.Machine.execRdrsp slave regs s
  | .wrreq slave addr value => Sys2Proof.Machine.execWrreq slave addr value s
  | .wrrsp slave addr value => Sys2Proof.Machine.execWrrsp slave addr value s

end Sys2Proof.Machine
end

