-- ==== Sys2Proof/WellFormed.lean ====
section
/-! DEFINITION. Which terms of Instr are instructions of the core: an illegal word is one of R82, and a 0x03
response holds at most the 125 registers that fit a frame (41_frame_codec.md R115, 30_encoding.md R90). -/

namespace Sys2Proof

/-- Well-formed instructions. The commands and the 8-byte frames admit every operand (R88). -/
def Instr.wf : Instr → Bool
  | .illegal w => Machine.isIllegal w
  | .rdrsp _ regs => Nat.ble regs.length Config.maxReadCount
  | .nop => true
  | .crc => true
  | .encrd => true
  | .encwr => true
  | .decode => true
  | .openPort => true
  | .closePort => true
  | .read => true
  | .write => true
  | .raw => true
  | .abort => true
  | .rdreq _ _ _ => true
  | .wrreq _ _ _ => true
  | .wrrsp _ _ _ => true

end Sys2Proof
end

