-- ==== Sys2Proof/Decode.lean ====
section
/-! DEFINITION. Decoding and encoding. The core decodes two formats, CMD16 and FRAME (30_encoding.md R80), and a
frame's direction is part of what is decoded, since a request and its response share the function code. -/

namespace Sys2Proof

/-- What the core is given to decode: a word written to CMD, or a whole frame of the wire in one direction. -/
inductive Packet where
  /-- Format CMD16: a word the host writes to CMD (R80, R81). -/
  | command (word : Word)
  /-- Format FRAME, core to slave (R84, R86). -/
  | request (bytes : List Byte)
  /-- Format FRAME, slave to core (R85, R87). -/
  | response (bytes : List Byte)
  deriving DecidableEq, Repr

/-- Why a byte sequence is no frame of the table. -/
inductive DecodeError where
  /-- Fewer than 5 bytes (R90). -/
  | tooShort
  /-- More than 256 bytes (R90). -/
  | tooLong
  /-- The trailing CRC is not the CRC16 of the preceding bytes (R104). -/
  | crcMismatch
  /-- A function code other than 0x03 and 0x06 (R91). -/
  | unknownFunction (func : Byte)
  /-- The length is not that of the frame kind (R84 to R87, R115, R116). -/
  | badLength
  /-- A 0x03 response with an odd byte count (R115). -/
  | oddByteCount
  deriving DecidableEq, Repr

/-- The command a word of CMD stands for (R81, R82). Every word has one: the illegal space is an instruction. -/
def decodeCommand (w : Word) : Instr :=
  if Machine.isIllegal w then .illegal w
  else match w.toNat with
    | 0 => .nop
    | 1 => .crc
    | 2 => .encrd
    | 3 => .encwr
    | 4 => .decode
    | 5 => .openPort
    | 6 => .closePort
    | 7 => .read
    | 8 => .write
    | 9 => .raw
    | _ => .abort

/-- The checks every frame passes first, in the order length then CRC (R90, R104, R114). -/
def frameCheck (bs : List Byte) : Option DecodeError :=
  if bs.length < Config.minFrame then some .tooShort
  else if Config.maxFrame < bs.length then some .tooLong
  else if !Machine.crcOk bs then some .crcMismatch
  else none

/-- A request on the wire: RDREQ (R84) or WRREQ (R86). -/
def decodeRequest (bs : List Byte) : Except DecodeError Instr :=
  match frameCheck bs with
  | some e => .error e
  | none =>
    let f := Machine.byteAt bs 1
    if f = 0x03#8 then
      if bs.length = 8 then .ok (.rdreq (Machine.byteAt bs 0)
        (Machine.be16 (Machine.byteAt bs 2) (Machine.byteAt bs 3)) (Machine.be16 (Machine.byteAt bs 4) (Machine.byteAt bs 5)))
      else .error .badLength
    else if f = 0x06#8 then
      if bs.length = 8 then .ok (.wrreq (Machine.byteAt bs 0)
        (Machine.be16 (Machine.byteAt bs 2) (Machine.byteAt bs 3)) (Machine.be16 (Machine.byteAt bs 4) (Machine.byteAt bs 5)))
      else .error .badLength
    else .error (.unknownFunction f)

/-- A response on the wire: RDRSP (R85, R115) or WRRSP (R87, R116). -/
def decodeResponse (bs : List Byte) : Except DecodeError Instr :=
  match frameCheck bs with
  | some e => .error e
  | none =>
    let f := Machine.byteAt bs 1
    let bc := (Machine.byteAt bs 2).toNat
    if f = 0x03#8 then
      if bs.length ≠ bc + 5 then .error .badLength
      else if bc % 2 = 1 then .error .oddByteCount
      else .ok (.rdrsp (Machine.byteAt bs 0) ((List.range (bc / 2)).map (Machine.responseWord bs)))
    else if f = 0x06#8 then
      if bs.length = 8 then .ok (.wrrsp (Machine.byteAt bs 0)
        (Machine.be16 (Machine.byteAt bs 2) (Machine.byteAt bs 3)) (Machine.be16 (Machine.byteAt bs 4) (Machine.byteAt bs 5)))
      else .error .badLength
    else .error (.unknownFunction f)

/-- The decoder: total on any word and any bytes, refusing by name. -/
def decode : Packet → Except DecodeError Instr
  | .command w => .ok (decodeCommand w)
  | .request bs => decodeRequest bs
  | .response bs => decodeResponse bs

/-- The encoder: the word of R81 or the bytes of R84 to R87. -/
def encode : Instr → Packet
  | .nop => .command 0x0000#16
  | .crc => .command 0x0001#16
  | .encrd => .command 0x0002#16
  | .encwr => .command 0x0003#16
  | .decode => .command 0x0004#16
  | .openPort => .command 0x0005#16
  | .closePort => .command 0x0006#16
  | .read => .command 0x0007#16
  | .write => .command 0x0008#16
  | .raw => .command 0x0009#16
  | .abort => .command 0x000A#16
  | .illegal w => .command w
  | .rdreq slave start count => .request (Machine.shortFrame slave 0x03#8 start count)
  | .rdrsp slave regs => .response (Machine.readResponse slave regs)
  | .wrreq slave addr value => .request (Machine.shortFrame slave 0x06#8 addr value)
  | .wrrsp slave addr value => .response (Machine.shortFrame slave 0x06#8 addr value)

/-- What a word of the opcode table, of nbits bits, stands for. The CMD16 rows are words of CMD. The FRAME rows'
bits are byte 1, the function code, alone: the frame is the response (what the core decodes, R114) with every
operand 0 and the CRC that R103 appends (log 9). -/
def tablePacket (nbits w : Nat) : Option Packet :=
  if nbits ≤ 8 ∧ w = 3 then some (.response (Machine.readResponse 0#8 []))
  else if nbits ≤ 8 ∧ w = 6 then some (.response (Machine.shortFrame 0#8 0x06#8 0#16 0#16))
  else if w < 65536 then some (.command (BitVec.ofNat 16 w))
  else none

/-- The instruction the decoder reads from a word of the opcode table (log 9). -/
def decodeTableWord (nbits w : Nat) : Option Instr :=
  match tablePacket nbits w with
  | some p => (decode p).toOption
  | none => none

end Sys2Proof
end

