-- ==== Sys2Proof/Machine/Fetch.lean ====
section
/-! DEFINITION. Where the next step comes from: the order of the events of one clock (60_exceptions.md R178), which
events carry an instruction, and what every other event does (10_state.md R45, 42_transaction.md R139). -/

namespace Sys2Proof.Machine

/-- The place of an event in the order of R178. A PHY answer is made ready before anything can ask for it (log 2). -/
def Event.rank : Event → Nat
  | .portAnswer _ => 0
  | .rst => 1
  | .linkLost => 2
  | .txError => 3
  | .rxByte _ => 4
  | .rxFrame _ => 4
  | .txTake => 5
  | .takeFrame _ => 5
  | .tick => 6
  | .hostWrite _ _ => 7
  | .hostRead _ => 7

/-- The event of a clock that R178 puts first, and the rest; of two of one rank, the one presented first. -/
def firstEvent : List Event → Option (Event × List Event)
  | [] => none
  | e :: es =>
    match firstEvent es with
    | none => some (e, [])
    | some (m, rest) => if e.rank ≤ m.rank then some (e, es) else some (m, e :: rest)

/-- The next event, and the clocks still to come. -/
def nextEvent : List (List Event) → Option (Event × List (List Event))
  | [] => none
  | c :: cs =>
    match firstEvent c with
    | none => nextEvent cs
    | some (e, rest) => some (e, rest :: cs)

/-- What an event gives the core to decode: a word written to CMD, or a whole frame on the wire. -/
def Event.packet : Event → Option Packet
  | .hostWrite addr v => if addr = 0#10 then some (.command v) else none
  | .rxFrame bs => some (.response bs)
  | .takeFrame bs => some (.request bs)
  | .hostRead _ => none
  | .tick => none
  | .rxByte _ => none
  | .txTake => none
  | .txError => none
  | .linkLost => none
  | .rst => none
  | .portAnswer _ => none

/-- The event that presents a packet to the core. -/
def packetEvent : Packet → Event
  | .command w => .hostWrite 0#10 w
  | .response bs => .rxFrame bs
  | .request bs => .takeFrame bs

/-- The instruction an event carries, if it carries one. -/
def Event.instr (e : Event) : Option Instr := e.packet.bind (fun p => (decode p).toOption)

/-- What the next step does: an instruction, or an event that carries none. -/
inductive Action where
  | run (i : Instr)
  | react (e : Event)
  deriving DecidableEq, Repr

/-- The next action and the state with its event taken; none when the environment presents nothing. -/
def State.fetch (s : State) : Option (Action × State) :=
  match nextEvent s.env.clocks with
  | none => none
  | some (e, cs) =>
    let t := { s with env.clocks := cs }
    match e.instr with
    | some i => some (.run i, t)
    | none => some (.react e, t)

/-- The core's reaction to an event that carries no instruction (R45, R139). A whole frame that is none of the
table's is taken, or delivered, as the bytes it is. -/
def State.react (s : State) : Event → State
  | .hostWrite addr v => s.hostWrite addr v
  | .hostRead addr => s.hostRead addr
  | .tick => s.onTick
  | .rxByte b => s.onRxByte b
  | .txTake => s.onTxTake
  | .txError => s.onTxError
  | .linkLost => s.onLinkLost
  | .rst => s.onReset
  | .rxFrame bs => s.onRxFrame bs
  | .takeFrame bs => s.onTakeFrame bs
  | .portAnswer ok => { s with env.phyAnswers := s.env.phyAnswers ++ [ok] }

/-- The state with a packet as the environment's very next clock. -/
def State.present (s : State) (p : Packet) : State := { s with env.clocks := [packetEvent p] :: s.env.clocks }

end Sys2Proof.Machine
end

