-- ==== Sys2Proof/Machine/Step.lean ====
section
/-! DEFINITION. One step of the machine: one event applied (10_state.md R45, 20_memory.md R73). -/

namespace Sys2Proof.Machine

/-- One step. With no event the core holds its state (93_implementation_defined.md U11, log 1). -/
def step (s : State) : Host.Outcome State Fault Refusal :=
  match s.fetch with
  | none => .next s
  | some (.run i, t) => exec i t
  | some (.react e, t) => .next (t.react e)

/-- The state with a word of the opcode table as the very next event: a CMD write, or a frame on the wire (log 9,
log 10). A word that is none of the table's leaves the state as it is. -/
def State.withFetchWord (s : State) (nbits w : Nat) : State :=
  match tablePacket nbits w with
  | some p => s.present p
  | none => s

end Sys2Proof.Machine
end

