-- ==== Sys2Proof/Safety.lean ====
section
/-! DEFINITION. What counts as a safe state: the invariants of 10_state.md R44 with those the phase machine adds to
them, and the buffers' canonical form. -/

namespace Sys2Proof.Machine

/-- The invariants of R44 but for the last (a statement about steps), GAP's (R33), and those of the phases: a timer
that runs has not expired (R185), a burst is empty until a byte is stored (R134, R145), a transaction in flight is
not done and shows no register (R134, R175), and its frame has a first byte to send (R142). -/
structure State.Inv (s : State) : Prop where
  /-- R44: BUSY = 1 exactly when XOP ≠ NONE. -/
  busy_iff : s.busy = true ↔ s.arb.xop ≠ .none
  /-- R44: BUSY = 1 implies CONN = 1. -/
  busy_conn : s.busy = true → s.regs.conn = true
  /-- R44: in phase TX, TXPTR < TXLEN. -/
  tx_ptr : s.arb.phase = .tx → s.arb.txptr.toNat < s.regs.txlen.toNat
  /-- R44: RXLEN ≤ 256. -/
  rxlen_le : s.regs.rxlen.toNat ≤ 256
  /-- R44: TXLEN ≤ 256. -/
  txlen_le : s.regs.txlen.toNat ≤ 256
  /-- R44: NREGS ≤ 125. -/
  nregs_le : s.regs.nregs.toNat ≤ 125
  /-- R33: GAP never holds 0. -/
  gap_pos : s.regs.gap ≠ 0#8
  /-- R142: TXLEN ≥ 1 while a transaction is in flight. -/
  busy_txlen : s.busy = true → s.regs.txlen ≠ 0#9
  /-- R134: NREGS reads 0 from the start of a transaction (R194). -/
  busy_nregs : s.busy = true → s.regs.nregs = 0#7
  /-- R175: the command that owns the transaction has not completed. -/
  busy_not_done : s.busy = true → s.regs.done = false
  /-- R140: the guard timer has not expired. -/
  guard_runs : s.arb.phase = .guard → s.arb.gcnt ≠ 0#8
  /-- R145: the response timer has not expired. -/
  wait_runs : s.arb.phase = .wait → s.arb.tocnt ≠ 0#16
  /-- R148: the gap timer has not expired. -/
  accum_runs : s.arb.phase = .accum → s.arb.gapcnt ≠ 0#8
  /-- R134, R141: no byte is stored before phase TX. -/
  guard_empty : s.arb.phase = .guard → s.regs.rxlen = 0#9
  /-- R142, R145: WAIT is entered and held only with an empty burst. -/
  wait_empty : s.arb.phase = .wait → s.regs.rxlen = 0#9
  /-- R142, R145: ACCUM has a first byte. -/
  accum_nonempty : s.arb.phase = .accum → s.regs.rxlen ≠ 0#9
  /-- R138: the counters are 0 while no transaction is in flight. -/
  idle_zero : s.busy = false → s.arb.txptr = 0#9 ∧ s.arb.gcnt = 0#8 ∧ s.arb.tocnt = 0#16 ∧ s.arb.gapcnt = 0#8
  /-- R135: a READ in flight asks for 1 to 125 registers. -/
  read_count : s.arb.xop = .read → s.regs.arg1 ≠ 0#16 ∧ s.regs.arg1.toNat ≤ 125
  /-- The buffers are in canonical form. -/
  tx_wf : Memory.wf s.bufs.tx
  rx_wf : Memory.wf s.bufs.rx
  regval_wf : Memory.wf s.bufs.regval
  /-- R40: no buffer lists an index it does not have. -/
  tx_range : ∀ c ∈ s.bufs.tx, c.1 < Config.txbufSize
  rx_range : ∀ c ∈ s.bufs.rx, c.1 < Config.rxbufSize
  regval_range : ∀ c ∈ s.bufs.regval, c.1 < Config.regvalSize

/-- While a request of READ or WRITE is in flight, TXBUF, TXLEN and CRC hold the 8-byte frame of the operands that
are in SLAVE, ARG0 and ARG1 (R76, R84, R86, R135, R136). -/
def State.RequestHeld (s : State) : Prop :=
  (s.arb.xop = .read →
    s.regs.txlen = 8#9 ∧ s.txBytes = shortFrame s.regs.slave 0x03#8 s.regs.arg0 s.regs.arg1) ∧
  (s.arb.xop = .write →
    s.regs.txlen = 8#9 ∧ s.txBytes = shortFrame s.regs.slave 0x06#8 s.regs.arg0 s.regs.arg1)

/-- What 10_state.md R44 says does not change while BUSY = 1: SLAVE, ARG0, ARG1, TIMEOUT, GUARD, GAP, TXLEN and
TXBUF (its listed bytes, and the epoch that its free bytes are of). -/
structure State.requestAsIn (t s : State) : Prop where
  slave : t.regs.slave = s.regs.slave
  arg0 : t.regs.arg0 = s.regs.arg0
  arg1 : t.regs.arg1 = s.regs.arg1
  timeout : t.regs.timeout = s.regs.timeout
  guard : t.regs.guard = s.regs.guard
  gap : t.regs.gap = s.regs.gap
  txlen : t.regs.txlen = s.regs.txlen
  tx : t.bufs.tx = s.bufs.tx
  epoch : t.env.epoch = s.env.epoch

/-- Every host address but those listed reads as before: the frame of an instruction or an event, said through the
read of one word of the host register space (20_memory.md R62). -/
def State.readsAsIn (t s : State) (changed : List Nat) : Prop :=
  ∀ a : HostAddr, a.toNat ∉ changed → t.peek a = s.peek a

/-- The flags an accepted command leaves (60_exceptions.md R175), but for DONE. -/
structure State.Accepted (t : State) : Prop where
  late : t.regs.late = false
  ovf : t.regs.ovf = false
  aborted : t.regs.aborted = false
  reject : t.regs.reject = ⟨0#4, .ok⟩

/-- A command accepted and completed in one event: RESULT reads `result`, DONE is set (R173, R175). -/
structure State.AcceptedAndDone (t : State) (result : Word) : Prop extends t.Accepted where
  done : t.regs.done = true
  result_reads : t.peek 0x002#10 = result

/-- What R183 lets the PHY present in a state: a taken byte or a write error only while one is offered, and a lost
link only while a handle is open. The core's rules cover the events that break this too (R150, R155). -/
def State.phyAllows (s : State) : Event → Bool
  | .txTake => s.txValid
  | .txError => s.txValid
  | .takeFrame bs => s.offered == bs
  | .linkLost => s.regs.conn
  | .hostWrite _ _ => true
  | .hostRead _ => true
  | .tick => true
  | .rxByte _ => true
  | .rxFrame _ => true
  | .rst => true
  | .portAnswer _ => true

end Sys2Proof.Machine
end

