-- ==== Sys2Proof/Certificates/Slice0/Obligations.lean ====
section
/-! DEFINITION. The statements for the provers. Each docstring names the rules of the spec it formalises. -/

open Sys2Proof Sys2Proof.Machine

/-! ## Encoding -/

/-- Every well-formed instruction is read back from its encoding: no bit of an operand is dropped
(30_encoding.md R81, R84 to R88). -/
def Obligations.DecodeOfEncode : Prop := ∀ i : Instr, i.wf = true → decode (encode i) = .ok i

/-- Every word and every frame the decoder reads has one meaning: it is the encoding of what is read, and that is
well formed (30_encoding.md R81 to R91). -/
def Obligations.EncodeOfDecode : Prop := ∀ (p : Packet) (i : Instr), decode p = .ok i → encode i = p ∧ i.wf = true

/-- Words and frames written out from the spec decode to what they stand for: the commands of R81, illegal words of
V-ISS-1, and frames of 95_test_vectors.md section 2.1. -/
def Obligations.SpecWordsDecode : Prop :=
  (decode (.command 0x0000#16) = .ok .nop ∧ decode (.command 0x0001#16) = .ok .crc ∧
    decode (.command 0x0004#16) = .ok .decode ∧ decode (.command 0x0007#16) = .ok .read ∧
    decode (.command 0x000A#16) = .ok .abort) ∧
  (decode (.command 0x0010#16) = .ok (.illegal 0x0010#16) ∧ decode (.command 0x8007#16) = .ok (.illegal 0x8007#16) ∧
    decode (.command 0x000B#16) = .ok (.illegal 0x000B#16)) ∧
  decode (.request [0x01#8, 0x03#8, 0x00#8, 0x10#8, 0x00#8, 0x01#8, 0x85#8, 0xCF#8]) =
    .ok (.rdreq 0x01#8 0x0010#16 0x0001#16) ∧
  decode (.request [0x02#8, 0x06#8, 0x12#8, 0x34#8, 0xAB#8, 0xCD#8, 0x73#8, 0xEA#8]) =
    .ok (.wrreq 0x02#8 0x1234#16 0xABCD#16) ∧
  decode (.response [0x01#8, 0x03#8, 0x02#8, 0x04#8, 0xE2#8, 0x3A#8, 0xCD#8]) = .ok (.rdrsp 0x01#8 [0x04E2#16]) ∧
  decode (.response [0x01#8, 0x06#8, 0x00#8, 0x30#8, 0x01#8, 0x4A#8, 0x09#8, 0xA2#8]) =
    .ok (.wrrsp 0x01#8 0x0030#16 0x014A#16)

/-- R82: a word is illegal when bits 15:4 are not all 0 or OP is 0xB to 0xF; it is rejected with IllegalCommand and
nothing but REJECT changes; every other word is one of the eleven commands. -/
def Obligations.IllegalWordIsRejected : Prop :=
  ∀ (w : Word) (s : State),
    if w.extractLsb' 4 12 ≠ 0#12 ∨ 0xB ≤ (w.extractLsb' 0 4).toNat then
      decodeCommand w = .illegal w ∧
        ∃ t, exec (.illegal w) s = .next t ∧ t = { s with regs.reject := ⟨w.extractLsb' 0 4, .illegalCommand⟩ } ∧
          t.peek 0x003#10 = ((w.extractLsb' 0 4).setWidth 16 <<< 4) ||| 0x000B#16
    else
      decodeCommand w ∈ [.nop, .crc, .encrd, .encwr, .decode, .openPort, .closePort, .read, .write, .raw, .abort]

/-! ## CRC16 -/

/-- R100 and R101: the register starts at 0xFFFF, takes the bytes in order, and each byte is XORed into its low byte
and followed by 8 iterations of "if LSB set, shift right and XOR with 0xA001, else shift right". -/
def Obligations.CrcAlgorithm : Prop :=
  crc16 [] = 0xFFFF#16 ∧ (∀ (bs : List Byte) (b : Byte), crc16 (bs ++ [b]) = crcByte (crc16 bs) b) ∧
    ∀ (c : Word) (b : Byte),
      crcByte c b =
        (fun x : Word => if x.getLsbD 0 = true then (x >>> 1) ^^^ 0xA001#16 else x >>> 1)^[8] (c ^^^ b.setWidth 16)

/-- The reference vector of the source (E1), the check value (V-CRC-6), and V-CRC-21 with its appended bytes. -/
def Obligations.CrcReferenceVectors : Prop :=
  crc16 [0x01#8, 0x06#8, 0x00#8, 0x01#8, 0x00#8, 0x01#8] = 0xCA19#16 ∧
  crc16 [0x31#8, 0x32#8, 0x33#8, 0x34#8, 0x35#8, 0x36#8, 0x37#8, 0x38#8, 0x39#8] = 0x4B37#16 ∧
  withCrc [0x01#8, 0x03#8, 0x00#8] = [0x01#8, 0x03#8, 0x00#8, 0x20#8, 0xF0#8]

/-- R106, residue: a sequence with its CRC appended low byte first has CRC16 0x0000 and passes the check. -/
def Obligations.CrcResidueIsZero : Prop := ∀ bs : List Byte, crc16 (withCrc bs) = 0x0000#16 ∧ crcOk (withCrc bs) = true

/-- R106, single-byte detection, at the DECODE command: any frame of 5 bytes or more that passes its CRC, with any
one byte changed, gives CrcMismatch, NREGS = 0, and no other decode output. -/
def Obligations.SingleByteChangeIsCrcMismatch : Prop :=
  ∀ (s : State) (bs : List Byte) (i : Nat) (b : Byte),
    s.busy = false → 5 ≤ bs.length → crcOk bs = true → i < bs.length → b ≠ byteAt bs i → s.rxBytes = bs.set i b →
    ∃ t, exec .decode s = .next t ∧ t.AcceptedAndDone 0x0047#16 ∧ t.regs.nregs = 0#7 ∧
      t.bufs = s.bufs ∧ t.regs.rxhdr = s.regs.rxhdr ∧ t.regs.bytecnt = s.regs.bytecnt

/-! ## The codec commands -/

/-- R110: the word 0x0000 is NOP, which changes no state at all, in any phase, BUSY or not; 0x0010 is not NOP. -/
def Obligations.NopChangesNothing : Prop :=
  decode (.command 0x0000#16) = .ok .nop ∧ decode (.command 0x0010#16) = .ok (.illegal 0x0010#16) ∧
    ∀ s : State, exec .nop s = .next s

/-- A word of CMD that is a command i, and what BUSY = 1 does to it: rejected with Busy, only REJECT changing
(R81, R172, R174). -/
def Sys2Proof.Claims.IssuedAs (i : Instr) (w : Word) : Prop :=
  decode (.command w) = .ok i ∧
    ∀ s : State, s.busy = true → exec i s = .next { s with regs.reject := ⟨w.extractLsb' 0 4, .busy⟩ }

/-- R102: with BUSY = 0 the CRC command puts CRC16 of TXBUF[0..TXLEN) into CRC and completes with OK (RESULT 0x0010);
with BUSY = 1 it is rejected. Frame: every other register but the flags, every buffer byte and the arbiter keep their
values. -/
def Obligations.CrcCommandComputesCrc : Prop :=
  Sys2Proof.Claims.IssuedAs .crc 0x0001#16 ∧ ∀ s : State, s.busy = false →
    ∃ t, exec .crc s = .next t ∧ t.peek 0x00C#10 = crc16 s.txBytes ∧ t.AcceptedAndDone 0x0010#16 ∧
      t.regs.conn = s.regs.conn ∧ t.bufs = s.bufs ∧ t.arb = s.arb ∧ t.env = s.env ∧
      t.readsAsIn s [0x001, 0x002, 0x003, 0x00C]

namespace Sys2Proof.Claims

/-- An encoder command i with function code f (R111, R112): TXBUF[0..8) holds the frame of R84 or R86 for SLAVE, ARG0
and ARG1, TXLEN is 8, CRC is its CRC, and every other address but the flags reads as before; with BUSY = 1 the word w is
rejected. -/
def Encodes (i : Instr) (w : Word) (f : Byte) (result : Word) : Prop :=
  IssuedAs i w ∧ ∀ s : State, s.busy = false →
    ∃ t, exec i s = .next t ∧
      (let c := crc16 [s.regs.slave, f, hi8 s.regs.arg0, lo8 s.regs.arg0, hi8 s.regs.arg1, lo8 s.regs.arg1]
       t.peek 0x100#10 = s.regs.slave.setWidth 16 ∧ t.peek 0x101#10 = f.setWidth 16 ∧
       t.peek 0x102#10 = (hi8 s.regs.arg0).setWidth 16 ∧ t.peek 0x103#10 = (lo8 s.regs.arg0).setWidth 16 ∧
       t.peek 0x104#10 = (hi8 s.regs.arg1).setWidth 16 ∧ t.peek 0x105#10 = (lo8 s.regs.arg1).setWidth 16 ∧
       t.peek 0x106#10 = (lo8 c).setWidth 16 ∧ t.peek 0x107#10 = (hi8 c).setWidth 16 ∧ t.peek 0x00C#10 = c) ∧
      t.peek 0x00A#10 = 8#16 ∧ t.AcceptedAndDone result ∧ t.regs.conn = s.regs.conn ∧ t.arb = s.arb ∧ t.env = s.env ∧
      t.readsAsIn s
        [0x001, 0x002, 0x003, 0x00A, 0x00C, 0x100, 0x101, 0x102, 0x103, 0x104, 0x105, 0x106, 0x107]

/-- The frame's last byte has been taken, and with it the bytes bs have gone out since s, in phase TX (R142; that they
stand in a record of outputs is log 6): the arbiter goes to ACCUM with the gap started if a byte has come, else to WAIT
with the timeout started, or ends the transaction with ResponseTimeout when TIMEOUT = 0 (R145). Every buffer keeps its
bytes, every register its value, but for RESULT and DONE in that last case. -/
structure LeavesTx (s t : State) (bs : List Byte) : Prop where
  env : t.env = { s.env with trace := s.env.trace ++ bs.map .send }
  bufs : t.bufs = s.bufs
  goes :
    if s.regs.rxlen ≠ 0#9 then
      t.arb = { s.arb with txptr := s.regs.txlen, gapcnt := s.regs.gap, phase := .accum } ∧ t.regs = s.regs
    else if s.regs.timeout = 0#16 then
      t.arb = ⟨.idle, .none, 0#9, 0#8, 0#16, 0#8, s.arb.port⟩ ∧
        t.regs = { s.regs with result := ⟨s.arb.xop.op, .responseTimeout⟩, done := true }
    else t.arb = { s.arb with txptr := s.regs.txlen, tocnt := s.regs.timeout, phase := .wait } ∧ t.regs = s.regs

/-- A request frame i of the wire, whose bytes are bs, is sent when the PHY takes it (R142, log 7): the bytes are put
out in order, and the phase ends as after any frame's last byte. -/
def Sends (i : Instr) (bs : List Byte) : Prop :=
  ∀ s : State, s.arb.phase = .tx → s.arb.txptr = 0#9 → s.regs.txlen.toNat = bs.length → s.txBytes = bs →
    ∃ t, exec i s = .next t ∧ LeavesTx s t bs

/-- A response frame i of the wire, whose bytes are bs, arrives (R92, log 8): discarded with LATE in IDLE and GUARD
(R141, R149), else stored after the bytes already received (R144, R145), of which RXBUF keeps the first 256: with more,
RXLEN is 256 and OVF is set, and with no more OVF stays (R147). Every host address but STATUS, RXLEN and those of the
bytes stored, which end with RXBUF at 0x2FF, reads as before. -/
def Arrives (i : Instr) (bs : List Byte) : Prop :=
  ∀ s : State,
    ∃ t, exec i s = .next t ∧
      ((s.arb.phase = .idle ∨ s.arb.phase = .guard) → t = { s with regs.late := true }) ∧
      (s.arb.phase ≠ .idle → s.arb.phase ≠ .guard → s.regs.rxlen.toNat ≤ 256 →
        let n := s.regs.rxlen.toNat + bs.length
        t.rxBytes = (s.rxBytes ++ bs).take 256 ∧ t.regs.rxlen.toNat = min n 256 ∧
        t.regs = { s.regs with rxlen := t.regs.rxlen, ovf := if 256 < n then true else s.regs.ovf } ∧
        t.bufs.tx = s.bufs.tx ∧ t.bufs.regval = s.bufs.regval ∧ t.env = s.env ∧
        t.arb = if s.arb.phase = .tx then s.arb else { s.arb with phase := .accum, gapcnt := s.regs.gap }) ∧
      ∀ a : HostAddr, a.toNat ∉ [0x001, 0x00B] →
        ¬(0x200 + s.regs.rxlen.toNat ≤ a.toNat ∧ a.toNat < 0x200 + s.regs.rxlen.toNat + bs.length ∧
          a.toNat < 0x300) →
        t.peek a = s.peek a

/-- A transaction of a command has started (R134, R175): the arbiter is in GUARD with the guard timer loaded, or in TX
when GUARD = 0; the burst is empty, NREGS is 0, the command is not done. -/
structure Started (s t : State) (op : XOp) : Prop where
  accepted : t.Accepted
  not_done : t.regs.done = false
  xop : t.arb.xop = op
  txptr : t.arb.txptr = 0#9
  rxlen : t.regs.rxlen = 0#9
  nregs : t.regs.nregs = 0#7
  phase : if s.regs.guard = 0#8 then t.arb.phase = .tx else t.arb.phase = .guard ∧ t.arb.gcnt = s.regs.guard
  result : t.regs.result = s.regs.result
  conn : t.regs.conn = s.regs.conn
  rx : t.bufs.rx = s.bufs.rx
  regval : t.bufs.regval = s.bufs.regval
  env : t.env = s.env

/-- A command refused with a code at issue, after acceptance: nothing but the flags, RESULT and REJECT changes. -/
def RefusedAtIssue (s t : State) (result : Word) : Prop :=
  t.AcceptedAndDone result ∧ t.regs.conn = s.regs.conn ∧ t.bufs = s.bufs ∧ t.arb = s.arb ∧ t.env = s.env ∧
    t.readsAsIn s [0x001, 0x002, 0x003]

/-- The fields of RESULT (R26) and of REJECT (R27) in the word w read: CODE in bits 3:0, OP in bits 7:4, the rest 0. -/
def ReadsRecord (w : Word) (r : Record) : Prop :=
  w.extractLsb' 0 4 = r.code.bits ∧ w.extractLsb' 4 4 = r.op ∧ w.extractLsb' 8 8 = 0#8

/-- The step that s is about to take is a host write of the word of READ, WRITE or RAW to CMD, with BUSY = 0. -/
def CommandsTransaction (s : State) : Prop :=
  s.busy = false ∧
    ∃ w cs, nextEvent s.env.clocks = some (.hostWrite 0#10 w, cs) ∧ (w = 0x0007#16 ∨ w = 0x0008#16 ∨ w = 0x0009#16)

end Sys2Proof.Claims

open Sys2Proof.Claims

/-- R111: ENCRD encodes the request of R84, whatever the operands. -/
def Obligations.EncrdEncodesReadRequest : Prop := Encodes .encrd 0x0002#16 0x03#8 0x0020#16

/-- R112: ENCWR encodes the request of R86, whatever the operands. -/
def Obligations.EncwrEncodesWriteRequest : Prop := Encodes .encwr 0x0003#16 0x06#8 0x0030#16

/-- R114, R117 and R176: the code DECODE records, check by check: length under 5, then the CRC, then by function code
the length and the byte count. Frame: only the flags, RESULT, REJECT, the decode outputs and REGVAL may change. -/
def Obligations.DecodeRecordsVerdict : Prop :=
  IssuedAs .decode 0x0004#16 ∧ ∀ s : State, s.busy = false →
    let bs := s.rxBytes
    let bc := (byteAt bs 2).toNat
    ∃ t, exec .decode s = .next t ∧ t.Accepted ∧ t.regs.done = true ∧
      t.regs.result =
        ⟨0x4#4,
          if bs.length < 5 then .malformedFrame
          else if be16 (byteAt bs (bs.length - 1)) (byteAt bs (bs.length - 2)) ≠ crc16 (bs.take (bs.length - 2)) then
            .crcMismatch
          else if byteAt bs 1 = 0x03#8 then if bs.length = bc + 5 ∧ bc % 2 = 0 then .ok else .malformedFrame
          else if byteAt bs 1 = 0x06#8 then if bs.length = 8 then .ok else .malformedFrame
          else .malformedFrame⟩ ∧
      t.regs.conn = s.regs.conn ∧ t.arb = s.arb ∧ t.env = s.env ∧
      ∀ a : HostAddr, a.toNat ∉ [0x001, 0x002, 0x003, 0x00D, 0x00E, 0x00F, 0x010, 0x011] → a.toNat < 0x300 →
        t.peek a = s.peek a

/-- R115: what an accepted 0x03 response leaves: BYTECNT, NREGS = bc/2, REGVAL[k] the word at offset 3 + 2k for every
k < bc/2, RXHDR; every other REGVAL word and the echo registers as before. -/
def Obligations.DecodeOfReadResponse : Prop :=
  ∀ s : State, s.busy = false →
    let bs := s.rxBytes
    let bc := (byteAt bs 2).toNat
    bs.length = bc + 5 → bc % 2 = 0 → crcOk bs = true → byteAt bs 1 = 0x03#8 → bs.length ≤ 256 →
    ∃ t, exec .decode s = .next t ∧ t.AcceptedAndDone 0x0040#16 ∧ t.peek 0x00D#10 = (byteAt bs 2).setWidth 16 ∧
      t.regs.nregs.toNat = bc / 2 ∧ t.peek 0x011#10 = be16 (byteAt bs 0) (byteAt bs 1) ∧
      (∀ k < 125, t.peek (BitVec.ofNat 10 (0x300 + k)) =
        if k < bc / 2 then be16 (byteAt bs (3 + 2 * k)) (byteAt bs (4 + 2 * k))
        else s.peek (BitVec.ofNat 10 (0x300 + k))) ∧
      t.peek 0x00F#10 = s.peek 0x00F#10 ∧ t.peek 0x010#10 = s.peek 0x010#10

/-- R116: what an accepted 0x06 response leaves: ECHO_ADDR, ECHO_VALUE, RXHDR, NREGS = 0; BYTECNT and REGVAL as
before. -/
def Obligations.DecodeOfWriteResponse : Prop :=
  ∀ s : State, s.busy = false →
    let bs := s.rxBytes
    bs.length = 8 → crcOk bs = true → byteAt bs 1 = 0x06#8 →
    ∃ t, exec .decode s = .next t ∧ t.AcceptedAndDone 0x0040#16 ∧
      t.peek 0x00F#10 = be16 (byteAt bs 2) (byteAt bs 3) ∧ t.peek 0x010#10 = be16 (byteAt bs 4) (byteAt bs 5) ∧
      t.peek 0x011#10 = be16 (byteAt bs 0) (byteAt bs 1) ∧ t.regs.nregs = 0#7 ∧
      t.regs.bytecnt = s.regs.bytecnt ∧ t.bufs = s.bufs

/-- R118, the spec's own inference from R114 to R117: a failed decode leaves NREGS = 0, BYTECNT, ECHO_ADDR, ECHO_VALUE
and every REGVAL word as before; RXHDR as before when the length is under 5 or the CRC fails, and the frame's bytes 0
and 1 otherwise. DECODE completes with what the decoder answers for RXBUF[0..RXLEN) (R113). -/
def Obligations.FailedDecodeMarksNothingValid : Prop :=
  (∀ (s : State) (bs : List Byte), (s.decodeResponse bs).1 ≠ .ok →
    let t := (s.decodeResponse bs).2
    t.regs.nregs = 0#7 ∧ t.regs.bytecnt = s.regs.bytecnt ∧ t.regs.echoAddr = s.regs.echoAddr ∧
      t.regs.echoValue = s.regs.echoValue ∧ t.bufs = s.bufs ∧
      t.regs.rxhdr =
        if bs.length < 5 ∨ crcOk bs = false then s.regs.rxhdr else be16 (byteAt bs 0) (byteAt bs 1)) ∧
  ∀ s : State, s.busy = false →
    exec .decode s =
      .next ((s.accept.decodeResponse s.rxBytes).2.finish 0x4#4 (s.accept.decodeResponse s.rxBytes).1)

/-- The source's round trip (E2): a valid reply of up to 125 registers in RXBUF, decoded, gives back exactly its
registers, in order (R85, R113 to R115). -/
def Obligations.DecodeRecoversRegisters : Prop :=
  ∀ (s : State) (slave : Byte) (regs : List Word), s.busy = false → regs.length ≤ 125 →
    s.rxBytes = readResponse slave regs →
    ∃ t, exec .decode s = .next t ∧ t.AcceptedAndDone 0x0040#16 ∧ t.regs.nregs.toNat = regs.length ∧
      t.regs.bytecnt.toNat = 2 * regs.length ∧ t.regs.rxhdr = be16 slave 0x03#8 ∧
      ∀ k (h : k < regs.length), t.peek (BitVec.ofNat 10 (0x300 + k)) = regs[k]

/-- The machine's decoder and the frame decoder agree: DECODE completes with OK exactly on the bytes that are a RDRSP
or WRRSP frame (R85, R87, R114 to R117). -/
def Obligations.DecodeAcceptsExactlyTheResponses : Prop :=
  ∀ s : State, s.regs.rxlen.toNat ≤ 256 →
    ((s.decodeResponse s.rxBytes).1 = .ok ↔ ∃ i, Sys2Proof.decodeResponse s.rxBytes = .ok i)

/-! ## Connection -/

/-- R131: OPEN. AlreadyOpen if connected; else the PHY's answer decides between OK, which connects and holds the port,
and PortUnavailable. The call and its answer are output. Frame: nothing else but the flags changes. Where the answer
comes from and where the call is recorded are the model's choices (logs 3 and 6), and that PORT keeps its value where
the rule writes none is its reading (log 16, DEDUCED). -/
def Obligations.OpenConnects : Prop :=
  IssuedAs .openPort 0x0005#16 ∧ ∀ s : State, s.busy = false →
    ∃ t, exec .openPort s = .next t ∧ t.bufs = s.bufs ∧ t.readsAsIn s [0x001, 0x002, 0x003] ∧
      t.arb = { s.arb with port := t.arb.port } ∧
      (if s.regs.conn = true then
        t.AcceptedAndDone 0x0052#16 ∧ t.regs.conn = true ∧ t.arb.port = s.arb.port ∧ t.env = s.env
      else if s.phyAnswer s.regs.arg0 = true then
        t.AcceptedAndDone 0x0050#16 ∧ t.regs.conn = true ∧ t.arb.port = s.regs.arg0 ∧
          t.env.trace = s.env.trace ++ [.openPort s.regs.arg0 true]
      else
        t.AcceptedAndDone 0x0053#16 ∧ t.regs.conn = false ∧ t.arb.port = s.arb.port ∧
          t.env.trace = s.env.trace ++ [.openPort s.regs.arg0 false])

/-- R132: CLOSE always completes with OK and leaves CONN = 0; it calls the PHY only when connected. That PORT keeps its
value, as a part of the arbiter, is the model's reading (log 16, DEDUCED), and where the call is recorded its choice
(log 6). -/
def Obligations.CloseAlwaysSucceeds : Prop :=
  IssuedAs .closePort 0x0006#16 ∧ ∀ s : State, s.busy = false →
    ∃ t, exec .closePort s = .next t ∧ t.AcceptedAndDone 0x0060#16 ∧ t.regs.conn = false ∧ t.bufs = s.bufs ∧
      t.arb = s.arb ∧ t.readsAsIn s [0x001, 0x002, 0x003] ∧
      t.env = if s.regs.conn = true then { s.env with trace := s.env.trace ++ [.closePort] } else s.env

/-! ## Transaction commands -/

/-- R135 with R134: READ at issue. NotConnected, then OutOfRange for a count of 0 or over 125; else the request of R84
is in TXBUF, TXLEN and CRC, and the transaction has started. -/
def Obligations.ReadAtIssue : Prop :=
  IssuedAs .read 0x0007#16 ∧ ∀ s : State, s.busy = false →
    ∃ t, exec .read s = .next t ∧
      (if s.regs.conn = false then RefusedAtIssue s t 0x0071#16
      else if s.regs.arg1 = 0#16 ∨ 125 < s.regs.arg1.toNat then RefusedAtIssue s t 0x007A#16
      else
        Started s t .read ∧ t.txBytes = shortFrame s.regs.slave 0x03#8 s.regs.arg0 s.regs.arg1 ∧
          t.peek 0x00C#10 = crc16 (header s.regs.slave 0x03#8 s.regs.arg0 s.regs.arg1) ∧
          t.readsAsIn s
            [0x001, 0x003, 0x00A, 0x00B, 0x00C, 0x00E, 0x100, 0x101, 0x102, 0x103, 0x104, 0x105, 0x106, 0x107])

/-- R136 with R134: WRITE at issue. NotConnected; else the request of R86 and the transaction has started, whatever
the address and value. -/
def Obligations.WriteAtIssue : Prop :=
  IssuedAs .write 0x0008#16 ∧ ∀ s : State, s.busy = false →
    ∃ t, exec .write s = .next t ∧
      (if s.regs.conn = false then RefusedAtIssue s t 0x0081#16
      else
        Started s t .write ∧ t.txBytes = shortFrame s.regs.slave 0x06#8 s.regs.arg0 s.regs.arg1 ∧
          t.peek 0x00C#10 = crc16 (header s.regs.slave 0x06#8 s.regs.arg0 s.regs.arg1) ∧
          t.readsAsIn s
            [0x001, 0x003, 0x00A, 0x00B, 0x00C, 0x00E, 0x100, 0x101, 0x102, 0x103, 0x104, 0x105, 0x106, 0x107])

/-- R137 with R134: RAW at issue. NotConnected, then OutOfRange for TXLEN = 0; else TXBUF is sent as it stands, with
TXBUF, TXLEN and CRC not written. -/
def Obligations.RawAtIssue : Prop :=
  IssuedAs .raw 0x0009#16 ∧ ∀ s : State, s.busy = false →
    ∃ t, exec .raw s = .next t ∧
      (if s.regs.conn = false then RefusedAtIssue s t 0x0091#16
      else if s.regs.txlen = 0#9 then RefusedAtIssue s t 0x009A#16
      else Started s t .raw ∧ t.bufs = s.bufs ∧ t.readsAsIn s [0x001, 0x003, 0x00B, 0x00E])

/-- R153: ABORT. With no transaction in flight nothing changes at all; else the transaction ends with ResponseTimeout
under its own opcode, ABORTED is set and NREGS cleared; REJ, LATE, OVF, the connection, every buffer and every other
register keep their values. -/
def Obligations.AbortCancels : Prop :=
  decode (.command 0x000A#16) = .ok .abort ∧ ∀ s : State,
    ∃ t, exec .abort s = .next t ∧
      (if s.arb.xop = .none then t = s
      else
        t.regs = { s.regs with
          aborted := true, nregs := 0#7, done := true, result := ⟨s.arb.xop.op, .responseTimeout⟩ } ∧
        t.bufs = s.bufs ∧ t.env = s.env ∧
        t.arb = ⟨.idle, .none, 0#9, 0#8, 0#16, 0#8, s.arb.port⟩ ∧ t.readsAsIn s [0x001, 0x002, 0x00E])

/-- R172, with R174 and R175: what the step of a CMD write does, case by case: NOP nothing, an illegal word rejected,
ABORT taken in every phase, any other command rejected with Busy while a transaction is in flight (R133), and
otherwise accepted and run. -/
def Obligations.CommandIssue : Prop :=
  ∀ (s : State) (w : Word) (cs : List (List Event)), nextEvent s.env.clocks = some (.hostWrite 0#10 w, cs) →
    let u : State := { s with env := { s.env with clocks := cs } }
    let op := w.extractLsb' 0 4
    if w = 0x0000#16 then step s = .next u
    else if w.extractLsb' 4 12 ≠ 0#12 ∨ 0xB ≤ op.toNat then
      step s = .next { u with regs := { u.regs with reject := ⟨op, .illegalCommand⟩ } }
    else if op = 0xA#4 then step s = exec .abort u
    else if s.busy = true then step s = .next { u with regs := { u.regs with reject := ⟨op, .busy⟩ } }
    else step s = exec (decodeCommand w) u ∧ ∃ t, step s = .next t ∧ t.Accepted

/-! ## Host accesses -/

/-- R62 with the layouts of R23, R25 to R27 and R40: what a host read of each address returns, bit by bit for STATUS,
RESULT and REJECT with the numbers of R41 and R170; reserved addresses and CMD read 0; and a read changes nothing of
the core, so that a second one returns the same. That the data is an entry in a record of outputs is the model's
choice (log 6). -/
def Obligations.HostReadReturnsTheMap : Prop :=
  [Phase.idle, .guard, .tx, .wait, .accum].map Phase.bits = [0#3, 1#3, 2#3, 3#3, 4#3] ∧
  [Code.ok, .notConnected, .alreadyOpen, .portUnavailable, .writeFailed, .responseTimeout, .malformedFrame,
      .crcMismatch, .writeVerificationFailed, .busy, .outOfRange, .illegalCommand].map Code.bits =
    [0#4, 1#4, 2#4, 3#4, 4#4, 5#4, 6#4, 7#4, 8#4, 9#4, 10#4, 11#4] ∧
  ∀ (s : State),
    (let status := s.peek 0x001#10
     status.getLsbD 0 = s.busy ∧ (s.busy = true ↔ s.arb.phase ≠ .idle) ∧ status.getLsbD 1 = s.regs.conn ∧
     status.getLsbD 2 = s.regs.done ∧ (status.getLsbD 3 = true ↔ s.regs.result.code ≠ .ok) ∧
     (status.getLsbD 4 = true ↔ s.regs.reject.code ≠ .ok) ∧ status.getLsbD 5 = s.regs.late ∧
     status.getLsbD 6 = s.regs.ovf ∧ status.getLsbD 7 = s.regs.aborted ∧
     status.extractLsb' 8 3 = s.arb.phase.bits ∧ status.extractLsb' 11 5 = 0#5) ∧
    ReadsRecord (s.peek 0x002#10) s.regs.result ∧ ReadsRecord (s.peek 0x003#10) s.regs.reject ∧
    (s.peek 0x000#10 = 0#16 ∧ s.peek 0x004#10 = s.regs.slave.setWidth 16 ∧
      s.peek 0x005#10 = s.regs.arg0 ∧ s.peek 0x006#10 = s.regs.arg1 ∧ s.peek 0x007#10 = s.regs.timeout ∧
      s.peek 0x008#10 = s.regs.guard.setWidth 16 ∧ s.peek 0x009#10 = s.regs.gap.setWidth 16 ∧
      s.peek 0x00A#10 = s.regs.txlen.setWidth 16 ∧ s.peek 0x00B#10 = s.regs.rxlen.setWidth 16 ∧
      s.peek 0x00C#10 = s.regs.crc ∧ s.peek 0x00D#10 = s.regs.bytecnt.setWidth 16 ∧
      s.peek 0x00E#10 = s.regs.nregs.setWidth 16 ∧ s.peek 0x00F#10 = s.regs.echoAddr ∧
      s.peek 0x010#10 = s.regs.echoValue ∧ s.peek 0x011#10 = s.regs.rxhdr) ∧
    (∀ i < 256, s.peek (BitVec.ofNat 10 (0x100 + i)) = (s.txByte i).setWidth 16) ∧
    (∀ i < 256, s.peek (BitVec.ofNat 10 (0x200 + i)) = (s.rxByte i).setWidth 16) ∧
    (∀ i < 125, s.peek (BitVec.ofNat 10 (0x300 + i)) = s.regvalWord i) ∧
    (∀ a : HostAddr, (0x012 ≤ a.toNat ∧ a.toNat ≤ 0x0FF) ∨ (0x37D ≤ a.toNat ∧ a.toNat ≤ 0x3FF) → s.peek a = 0#16) ∧
    ∀ a : HostAddr,
      s.react (.hostRead a) = { s with env := { s.env with trace := s.env.trace ++ [.readData a (s.peek a)] } } ∧
        ∀ b : HostAddr, (s.react (.hostRead a)).peek b = s.peek b

/-- R65: reserved addresses read as 0x0000 and ignore writes. -/
def Obligations.ReservedAddressesAreInert : Prop :=
  ∀ (s : State) (a : HostAddr) (v : Word),
    (0x012 ≤ a.toNat ∧ a.toNat ≤ 0x0FF) ∨ (0x37D ≤ a.toNat ∧ a.toNat ≤ 0x3FF) →
    s.peek a = 0#16 ∧ s.react (.hostWrite a v) = s

/-- R64: while BUSY = 1 every host write to an address other than CMD is ignored. -/
def Obligations.WritesWhileBusyAreIgnored : Prop :=
  ∀ (s : State) (a : HostAddr) (v : Word), s.busy = true → a ≠ 0#10 → s.react (.hostWrite a v) = s

/-- R63: a host write to CMD issues a command; with BUSY = 1 any other is ignored; else it makes each writable
address read as its field rule says (R28 to R35, R40), and read-only addresses ignore it. Every other address, and the
arbiter, keep their values. -/
def Obligations.HostWriteStoresFields : Prop :=
  (∀ v : Word, (Event.hostWrite 0#10 v).instr = some (decodeCommand v)) ∧
  ∀ (s : State) (a : HostAddr) (v : Word), a ≠ 0#10 →
    let t := s.react (.hostWrite a v)
    if s.busy = true then t = s
    else
      (t.peek a =
        if a.toNat = 0x004 ∨ a.toNat = 0x008 then (lo8 v).setWidth 16
        else if a.toNat = 0x005 ∨ a.toNat = 0x006 ∨ a.toNat = 0x007 then v
        else if a.toNat = 0x009 then BitVec.ofNat 16 (max (v.toNat % 256) 1)
        else if a.toNat = 0x00A ∨ a.toNat = 0x00B then BitVec.ofNat 16 (min v.toNat 256)
        else if 0x100 ≤ a.toNat ∧ a.toNat < 0x300 then (lo8 v).setWidth 16
        else s.peek a) ∧
      (∀ b : HostAddr, b ≠ a → t.peek b = s.peek b) ∧ t.arb = s.arb ∧ t.env = s.env ∧
        t.regs.conn = s.regs.conn ∧ t.regs.done = s.regs.done ∧ t.regs.late = s.regs.late ∧ t.regs.ovf = s.regs.ovf ∧
        t.regs.aborted = s.regs.aborted ∧ t.regs.result = s.regs.result ∧ t.regs.reject = s.regs.reject

/-! ## The phase machine -/

/-- R140: in GUARD with g ticks left, the phase holds for every tick before the g-th, and the g-th starts phase TX
at byte 0; nothing else changes. -/
def Obligations.GuardEndsAtItsTick : Prop :=
  ∀ s : State, s.arb.phase = .guard → s.arb.gcnt ≠ 0#8 →
    (∀ m < s.arb.gcnt.toNat,
      State.tickMany m s = { s with arb := { s.arb with gcnt := s.arb.gcnt - BitVec.ofNat 8 m } }) ∧
    State.tickMany s.arb.gcnt.toNat s = { s with arb := { s.arb with gcnt := 0#8, txptr := 0#9, phase := .tx } }

/-- R145: in WAIT with n ticks left and no byte, the phase holds for every tick before the n-th, and the n-th ends the
transaction with ResponseTimeout, leaving the core idle and every buffer as it was. -/
def Obligations.WaitTimesOutAtItsTick : Prop :=
  ∀ s : State, s.arb.phase = .wait → s.arb.tocnt ≠ 0#16 →
    (∀ m < s.arb.tocnt.toNat,
      State.tickMany m s = { s with arb := { s.arb with tocnt := s.arb.tocnt - BitVec.ofNat 16 m } }) ∧
    State.tickMany s.arb.tocnt.toNat s =
      { s with
        regs := { s.regs with result := ⟨s.arb.xop.op, .responseTimeout⟩, done := true }
        arb := ⟨.idle, .none, 0#9, 0#8, 0#16, 0#8, s.arb.port⟩ }

/-- R148: in ACCUM with g ticks left, the burst stays open for every tick before the g-th, and the g-th completes the
transaction on the bytes received (`complete_xact`, R138): the core is idle and done, and RESULT holds the command. -/
def Obligations.GapEndsTheBurst : Prop :=
  ∀ s : State, s.arb.phase = .accum → s.arb.gapcnt ≠ 0#8 →
    (∀ m < s.arb.gapcnt.toNat,
      State.tickMany m s = { s with arb := { s.arb with gapcnt := s.arb.gapcnt - BitVec.ofNat 8 m } }) ∧
    (let t := State.tickMany s.arb.gapcnt.toNat s
     t = State.completeXact { s with arb := { s.arb with gapcnt := 0#8 } } ∧ t.busy = false ∧
       t.arb = ⟨.idle, .none, 0#9, 0#8, 0#16, 0#8, s.arb.port⟩ ∧ t.regs.done = true ∧
       t.regs.result.op = s.arb.xop.op ∧ t.rxBytes = s.rxBytes ∧ t.regs.conn = s.regs.conn)

/-- R141 and R149: a byte received in GUARD or IDLE is discarded and sets LATE; nothing else changes. -/
def Obligations.LateByteIsDiscarded : Prop :=
  ∀ (s : State) (b : Byte), s.arb.phase = .guard ∨ s.arb.phase = .idle →
    s.react (.rxByte b) = { s with regs.late := true }

/-- R144, R145 and R147: a byte received in TX, WAIT or ACCUM is stored at RXBUF[RXLEN] and RXLEN counts it, or, with
256 bytes held, is dropped with OVF set; TX keeps its phase, WAIT and ACCUM go on in ACCUM with the gap restarted. -/
def Obligations.ReceivedByteIsStored : Prop :=
  ∀ (s : State) (b : Byte), s.arb.phase ≠ .guard → s.arb.phase ≠ .idle → s.regs.rxlen.toNat ≤ 256 →
    let t := s.react (.rxByte b)
    (t.arb = if s.arb.phase = .tx then s.arb else { s.arb with phase := .accum, gapcnt := s.regs.gap }) ∧
    t.bufs.tx = s.bufs.tx ∧ t.bufs.regval = s.bufs.regval ∧ t.env = s.env ∧
    (if s.regs.rxlen.toNat < 256 then
      t.rxBytes = s.rxBytes ++ [b] ∧ t.regs = { s.regs with rxlen := s.regs.rxlen + 1#9 } ∧
        ∀ i, i ≠ s.regs.rxlen.toNat → t.rxByte i = s.rxByte i
    else t.regs = { s.regs with ovf := true } ∧ t.bufs.rx = s.bufs.rx)

/-- R142 and R145: while the PHY takes the bytes offered in TX, they go out in TXBUF order, one a take, and until the
last nothing else changes but TXPTR; the frame's last byte ends the phase, in ACCUM, in WAIT or with ResponseTimeout.
For what is left of a frame of any length, RAW's among them. That the bytes sent stand in a record of outputs is the
model's choice (log 6). -/
def Obligations.FrameIsSentInOrder : Prop :=
  ∀ s : State, s.arb.phase = .tx → s.arb.txptr.toNat < s.regs.txlen.toNat →
    let n := s.regs.txlen.toNat - s.arb.txptr.toNat
    let taken := fun m => (List.range m).map (fun k => s.txByte (s.arb.txptr.toNat + k))
    (∀ m < n,
      State.takeMany m s =
        { s with
          arb := { s.arb with txptr := s.arb.txptr + BitVec.ofNat 9 m }
          env := { s.env with trace := s.env.trace ++ (taken m).map .send } }) ∧
    LeavesTx s (State.takeMany n s) (taken n)

/-- R84 and R86 with R142: a request frame on the wire is sent when the PHY takes it from the core. That a frame is an
instruction of its own, taken whole, is the model's choice (log 7). -/
def Obligations.RequestFramesAreSent : Prop :=
  (∀ (slave : Byte) (start count : Word),
    Sends (.rdreq slave start count)
      (withCrc [slave, 0x03#8, hi8 start, lo8 start, hi8 count, lo8 count])) ∧
  ∀ (slave : Byte) (addr value : Word),
    Sends (.wrreq slave addr value) (withCrc [slave, 0x06#8, hi8 addr, lo8 addr, hi8 value, lo8 value])

/-- Log 7, the model's choice: a request frame the core is not offering is not taken, and nothing changes. -/
def Obligations.UnofferedRequestIsNotTaken : Prop :=
  ∀ (s : State) (slave : Byte) (x y : Word),
    (s.offered ≠ shortFrame slave 0x03#8 x y → exec (.rdreq slave x y) s = .next s) ∧
      (s.offered ≠ shortFrame slave 0x06#8 x y → exec (.wrreq slave x y) s = .next s)

/-- R85 and R87 with R141, R144, R145, R147 and R149: a response frame on the wire arrives byte by byte. That a frame
is an instruction of its own is the model's choice (log 8). -/
def Obligations.ResponseFramesArrive : Prop :=
  (∀ (slave : Byte) (regs : List Word), Arrives (.rdrsp slave regs) (readResponse slave regs)) ∧
    ∀ (slave : Byte) (addr value : Word), Arrives (.wrrsp slave addr value) (shortFrame slave 0x06#8 addr value)

/-- R143: a write error in TX ends the transaction with WriteFailed and keeps the connection. -/
def Obligations.WriteErrorEndsTransaction : Prop :=
  ∀ s : State, s.arb.phase = .tx →
    s.react .txError =
      { s with
        regs := { s.regs with result := ⟨s.arb.xop.op, .writeFailed⟩, done := true }
        arb := ⟨.idle, .none, 0#9, 0#8, 0#16, 0#8, s.arb.port⟩ }

/-- R150: a tick in IDLE or TX, a tx_take outside TX and a tx_error outside TX change no state. -/
def Obligations.EventsWithoutEffect : Prop :=
  ∀ s : State,
    ((s.arb.phase = .idle ∨ s.arb.phase = .tx) → s.react .tick = s) ∧
    (s.arb.phase ≠ .tx → s.react .txTake = s ∧ s.react .txError = s)

/-- R183 with R150 and R155: an event the PHY may not present in a state (a byte taken or refused with tx_valid = 0, a
link lost with no handle, a frame taken that is not offered) changes nothing. -/
def Obligations.PhyEventsOutOfPlaceAreInert : Prop :=
  ∀ (s : State) (e : Event), s.phyAllows e = false → s.react e = s

/-- R155: link loss. Connected, it disconnects without calling the PHY, and a transaction in flight ends with
NotConnected and NREGS = 0; not connected, it has no effect. That PORT keeps its value is the model's reading (log 16,
DEDUCED). -/
def Obligations.LinkLossDisconnects : Prop :=
  ∀ s : State,
    s.react .linkLost =
      if s.regs.conn = false then s
      else if s.arb.xop = .none then { s with regs := { s.regs with conn := false } }
      else
        { s with
          regs := { s.regs with
            conn := false, nregs := 0#7, result := ⟨s.arb.xop.op, .notConnected⟩, done := true }
          arb := ⟨.idle, .none, 0#9, 0#8, 0#16, 0#8, s.arb.port⟩ }

/-- R190: reset, from any state, leaves every register and hidden field at the value of R23 and R42, records no result,
and closes the PHY exactly when CONN was 1. Where that call is recorded is the model's choice (log 6). -/
def Obligations.ResetSetsEveryRegister : Prop :=
  ∀ s : State,
    let t := s.react .rst
    t.peek 0x001#10 = 0x0000#16 ∧ t.peek 0x002#10 = 0x0000#16 ∧ t.peek 0x003#10 = 0x0000#16 ∧
    t.peek 0x004#10 = 0x0001#16 ∧ t.peek 0x005#10 = 0x0000#16 ∧ t.peek 0x006#10 = 0x0000#16 ∧
    t.peek 0x007#10 = 1000#16 ∧ t.peek 0x008#10 = 4#16 ∧ t.peek 0x009#10 = 4#16 ∧ t.peek 0x00A#10 = 0x0000#16 ∧
    t.peek 0x00B#10 = 0x0000#16 ∧ t.peek 0x00C#10 = 0xFFFF#16 ∧ t.peek 0x00D#10 = 0x0000#16 ∧
    t.peek 0x00E#10 = 0x0000#16 ∧ t.peek 0x00F#10 = 0x0000#16 ∧ t.peek 0x010#10 = 0x0000#16 ∧
    t.peek 0x011#10 = 0x0000#16 ∧ t.arb = ⟨.idle, .none, 0#9, 0#8, 0#16, 0#8, 0#16⟩ ∧
    t.env.trace = if s.regs.conn = true then s.env.trace ++ [.closePort] else s.env.trace

/-! ## Completion checks -/

/-- R138 and R151: the burst of a READ that did not overflow completes with OK exactly when it is, byte for byte, a
0x03 response of R85 that carries ARG1 registers; then REGVAL holds them in address order, and NREGS is their number.
Any other burst is refused: with the decoder's code (R114 to R117), or with MalformedFrame for another function or
another count, and NREGS is then 0. -/
def Obligations.ReadSucceedsExactlyOnItsReply : Prop :=
  ∀ s : State, s.arb.xop = .read → s.regs.ovf = false → s.regs.rxlen.toNat ≤ 256 → s.regs.arg1.toNat ≤ 125 →
    (s.completeXact.regs.result = ⟨0x7#4, .ok⟩ ↔
      ∃ slave regs, regs.length = s.regs.arg1.toNat ∧ s.rxBytes = readResponse slave regs) ∧
    (∀ slave regs, regs.length = s.regs.arg1.toNat → s.rxBytes = readResponse slave regs →
      s.completeXact.regs.nregs.toNat = regs.length ∧ s.completeXact.regs.rxhdr = be16 slave 0x03#8 ∧
        ∀ k (h : k < regs.length), s.completeXact.peek (BitVec.ofNat 10 (0x300 + k)) = regs[k]) ∧
    (let bs := s.rxBytes
     let bc := (byteAt bs 2).toNat
     s.completeXact.regs.result =
        ⟨0x7#4,
          if bs.length < 5 then .malformedFrame
          else if crcOk bs = false then .crcMismatch
          else if byteAt bs 1 = 0x03#8 ∧ bs.length = bc + 5 ∧ bc % 2 = 0 ∧ bc / 2 = s.regs.arg1.toNat then .ok
          else .malformedFrame⟩) ∧
    (s.completeXact.regs.result.code ≠ .ok → s.completeXact.regs.nregs = 0#7)

/-- R138 and R152: the burst of a WRITE that did not overflow completes with OK exactly when it is the 0x06 response
that echoes ARG0 and ARG1. Any other burst is refused: with the decoder's code (R114 to R117), with MalformedFrame for
another function, or with WriteVerificationFailed for another echo. NREGS is 0 in every case. -/
def Obligations.WriteSucceedsExactlyOnItsEcho : Prop :=
  ∀ s : State, s.arb.xop = .write → s.regs.ovf = false → s.regs.rxlen.toNat ≤ 256 →
    (s.completeXact.regs.result = ⟨0x8#4, .ok⟩ ↔
      ∃ slave, s.rxBytes = shortFrame slave 0x06#8 s.regs.arg0 s.regs.arg1) ∧
    (let bs := s.rxBytes
     s.completeXact.regs.result =
        ⟨0x8#4,
          if bs.length < 5 then .malformedFrame
          else if crcOk bs = false then .crcMismatch
          else if byteAt bs 1 = 0x06#8 ∧ bs.length = 8 then
            if be16 (byteAt bs 2) (byteAt bs 3) = s.regs.arg0 ∧ be16 (byteAt bs 4) (byteAt bs 5) = s.regs.arg1 then .ok
            else .writeVerificationFailed
          else .malformedFrame⟩) ∧
    s.completeXact.regs.nregs = 0#7

/-- R152: a 0x06 response that echoes another address or value completes a WRITE with WriteVerificationFailed, and
ECHO_ADDR and ECHO_VALUE hold what it echoed. -/
def Obligations.WrongEchoIsWriteVerificationFailed : Prop :=
  ∀ (s : State) (slave : Byte) (addr value : Word), s.arb.xop = .write → s.regs.ovf = false →
    s.rxBytes = shortFrame slave 0x06#8 addr value → addr ≠ s.regs.arg0 ∨ value ≠ s.regs.arg1 →
    s.completeXact.peek 0x002#10 = 0x0088#16 ∧ s.completeXact.peek 0x00F#10 = addr ∧
      s.completeXact.peek 0x010#10 = value

/-- R138 and R154: the burst of a RAW that did not overflow is checked for length and CRC alone, and no decode output
is written. -/
def Obligations.RawChecksLengthAndCrc : Prop :=
  ∀ s : State, s.arb.xop = .raw → s.regs.ovf = false →
    s.completeXact.regs =
      { s.regs with
        done := true
        result :=
          ⟨0x9#4,
            if s.rxBytes.length < 5 then .malformedFrame
            else if crcOk s.rxBytes = false then .crcMismatch
            else .ok⟩ } ∧
    s.completeXact.bufs = s.bufs

/-- R138 and R147: a burst that overflowed RXBUF completes with MalformedFrame, whatever the command and the bytes. -/
def Obligations.OverflowIsMalformed : Prop :=
  ∀ s : State, s.regs.ovf = true →
    s.completeXact.regs = { s.regs with done := true, result := ⟨s.arb.xop.op, .malformedFrame⟩ } ∧
      s.completeXact.bufs = s.bufs ∧ s.completeXact.busy = false

/-! ## The whole machine -/

/-- A step whose next event carries an instruction is exec of that instruction, on the state with the event taken: a
CMD write runs the command its word decodes to (R24, R172), a frame on the wire runs the frame. Nothing is added
around exec, for the core has no program counter (R22). A packet presented by the environment is such an event. That a
whole frame on the wire is one event and one instruction is the model's choice (logs 7, 8 and 20), and so is presenting
it as the next clock (log 10). -/
def Obligations.StepRunsDecodedInstruction : Prop :=
  (∀ (s : State) (e : Event) (cs : List (List Event)) (p : Packet) (i : Instr),
    nextEvent s.env.clocks = some (e, cs) → e.packet = some p → decode p = .ok i →
    step s = exec i { s with env := { s.env with clocks := cs } }) ∧
  (∀ (w : Word), (Event.hostWrite 0#10 w).packet = some (.command w)) ∧
  ∀ (s : State) (p : Packet) (i : Instr), decode p = .ok i →
    step (s.present p) = exec i { s with env := { s.env with clocks := [] :: s.env.clocks } }

/-- R45 and R69: an event that carries no instruction is applied by the step that takes it, alone and whole. That the
next event is the first of a clock, that an answer of the PHY is an event, and that a whole frame that decodes to
nothing is one event and one step, are the model's choices (logs 2, 3, 7, 8 and 20). -/
def Obligations.StepAppliesOneEvent : Prop :=
  ∀ (s : State) (e : Event) (cs : List (List Event)),
    nextEvent s.env.clocks = some (e, cs) → e.instr = none →
    step s = .next (State.react { s with env := { s.env with clocks := cs } } e)

/-- R178: of the events of one clock, the one applied first is one of those the order rst, link_lost, tx_error,
rx_byte, tx_take, tick, host access puts first; the others stay for later steps, none lost, none doubled. -/
def Obligations.ClockOrderIsKept : Prop :=
  (∀ (b : Byte) (a a' : HostAddr) (v : Word),
    Event.rst.rank < Event.linkLost.rank ∧ Event.linkLost.rank < Event.txError.rank ∧
      Event.txError.rank < (Event.rxByte b).rank ∧ (Event.rxByte b).rank < Event.txTake.rank ∧
      Event.txTake.rank < Event.tick.rank ∧ Event.tick.rank < (Event.hostWrite a v).rank ∧
      (Event.hostRead a').rank = (Event.hostWrite a v).rank) ∧
  ∀ (c : List Event) (cs : List (List Event)), c ≠ [] →
    ∃ e rest, nextEvent (c :: cs) = some (e, rest :: cs) ∧ (e :: rest).Perm c ∧ ∀ x ∈ rest, e.rank ≤ x.rank

/-- R176 and R180, R182: no step traps or refuses; every step answers a next state. -/
def Obligations.EveryStepGoesOn : Prop := ∀ s : State, ∃ t, step s = .next t

/-- The invariants of R44, with those of the phases, hold at reset, and no request is in flight. -/
def Obligations.InvAtReset : Prop := State.reset.Inv ∧ State.reset.RequestHeld

/-- R44: every step keeps the invariants, from every state that has them. -/
def Obligations.StepKeepsInv : Prop := ∀ s t : State, s.Inv → step s = .next t → t.Inv

/-- R76 with R84 and R86: every step keeps it that a READ or WRITE in flight offers the frame of the operands in
SLAVE, ARG0 and ARG1. -/
def Obligations.StepKeepsRequestHeld : Prop :=
  ∀ s t : State, s.Inv → s.RequestHeld → step s = .next t → t.RequestHeld

/-- R44, last invariant, and R64: no step from a state with BUSY = 1 changes SLAVE, ARG0, ARG1, TIMEOUT, GUARD, GAP,
TXLEN or TXBUF, unless its event is a reset (R190). -/
def Obligations.BusyFreezesTheRequest : Prop :=
  ∀ s t : State, s.busy = true → step s = .next t →
    (∀ cs, nextEvent s.env.clocks ≠ some (.rst, cs)) → t.requestAsIn s

/-- R26 and R173: a step that changes RESULT, unless it is a reset, completes a command: DONE is set after it, and,
from a state with the invariants, the core is idle after it and RESULT.OP is that of the command completed, which is
the one that owned the transaction in flight, or, with none in flight, the one accepted by this step's write of one of
the words 0x0001 to 0x0009 to CMD. -/
def Obligations.ResultChangesOnlyAtCompletion : Prop :=
  ∀ s t : State, step s = .next t → (∀ cs, nextEvent s.env.clocks ≠ some (.rst, cs)) →
    t.regs.result ≠ s.regs.result →
    t.regs.done = true ∧
      (s.Inv → t.busy = false ∧
        if s.busy = true then t.regs.result.op = s.arb.xop.op
        else
          ∃ w cs, nextEvent s.env.clocks = some (.hostWrite 0#10 w, cs) ∧ 1 ≤ w.toNat ∧ w.toNat ≤ 9 ∧
            t.regs.result.op = w.extractLsb' 0 4 ∧ t.Accepted)

/-- R25 and R130: the only step that connects is an OPEN command. -/
def Obligations.OnlyOpenConnects : Prop :=
  ∀ s t : State, step s = .next t → s.regs.conn = false → t.regs.conn = true →
    ∃ cs, nextEvent s.env.clocks = some (.hostWrite 0#10 0x0005#16, cs)

/-- R133 and R157: the core never starts a transaction the host did not command and never re-sends a frame. A step
that makes it busy is a READ, WRITE or RAW command; phase GUARD is entered from another phase by such a command alone,
phase TX by such a command or from GUARD (R134, R140); and inside TX, from a state with the invariants, TXPTR never
goes back. -/
def Obligations.TransactionsStartOnlyOnCommand : Prop :=
  ∀ s t : State, step s = .next t →
    (s.busy = false → t.busy = true → CommandsTransaction s) ∧
    (t.arb.phase = .guard → s.arb.phase ≠ .guard → CommandsTransaction s) ∧
    (t.arb.phase = .tx → s.arb.phase ≠ .tx → s.arb.phase = .guard ∨ CommandsTransaction s) ∧
    (s.Inv → s.arb.phase = .tx → t.arb.phase = .tx → s.arb.txptr.toNat ≤ t.arb.txptr.toNat)

/-- A whole READ (R134, R135, R138, R140, R142, R145, R148, R151): from an idle, connected core with a count of 1 to
125 and a timeout, the guard runs out, the PHY takes the request, the reply comes before the timeout, and GAP ticks of
silence later the core is idle with RESULT = 0x0070, STATUS = 0x0006, the request sent, and REGVAL holding the reply's
registers. That the request and the reply are taken and delivered whole, as instructions, is the model's choice (logs 7
and 8), and so is the record of what is sent (log 6). -/
def Obligations.ReadCompletesEndToEnd : Prop :=
  ∀ (s : State) (replier : Byte) (regs : List Word) (k : Nat),
    s.Inv → s.busy = false → s.regs.conn = true → regs.length = s.regs.arg1.toNat → 1 ≤ regs.length →
    regs.length ≤ 125 → k < s.regs.timeout.toNat →
    ∃ s1 s2 s3,
      exec .read s = .next s1 ∧
      exec (.rdreq s.regs.slave s.regs.arg0 s.regs.arg1) (State.tickMany s.regs.guard.toNat s1) = .next s2 ∧
      exec (.rdrsp replier regs) (State.tickMany k s2) = .next s3 ∧
      (let t := State.tickMany s.regs.gap.toNat s3
       t.peek 0x002#10 = 0x0070#16 ∧ t.peek 0x001#10 = 0x0006#16 ∧ t.regs.nregs.toNat = regs.length ∧
         t.env.trace = s.env.trace ++ (shortFrame s.regs.slave 0x03#8 s.regs.arg0 s.regs.arg1).map .send ∧
         ∀ j (h : j < regs.length), t.peek (BitVec.ofNat 10 (0x300 + j)) = regs[j])
end

