-- ==== Sys2Proof/Laws/Memory.lean ====
section
/-! SUPPORT. The laws of a buffer: a read after a write, and the canonical form every write keeps. -/

namespace Sys2Proof.Machine

variable {α : Type}

@[simp] theorem Memory.read_nil (i : Nat) : Memory.read ([] : Memory α) i = none := rfl

theorem Memory.read_cons (j : Nat) (v : α) (m : Memory α) (i : Nat) :
    Memory.read ((j, v) :: m) i = if i = j then some v else Memory.read m i := rfl

/-- A read after a write: the value at its index, every other index as before. -/
theorem Memory.read_write (m : Memory α) (i j : Nat) (v : α) :
    Memory.read (Memory.write m i v) j = if j = i then some v else Memory.read m j := by
  induction m with
  | nil => simp [Memory.write, Memory.read_cons]
  | cons c m ih =>
    obtain ⟨k, w⟩ := c
    unfold Memory.write
    by_cases h1 : i < k
    · simp [h1, Memory.read_cons]
    · by_cases h2 : i = k
      · subst h2
        simp only [lt_irrefl, if_false, if_true, Memory.read_cons]
        split <;> rfl
      · simp only [h1, h2, if_false, Memory.read_cons, ih]
        by_cases h3 : j = k
        · subst h3
          simp [Ne.symm h2]
        · simp [h3]

@[simp] theorem Memory.read_write_self (m : Memory α) (i : Nat) (v : α) :
    Memory.read (Memory.write m i v) i = some v := by simp [Memory.read_write]

theorem Memory.read_write_of_ne (m : Memory α) {i j : Nat} (v : α) (h : j ≠ i) :
    Memory.read (Memory.write m i v) j = Memory.read m j := by simp [Memory.read_write, h]

/-- A read after writing a sequence: its values at their indexes, every other index as before. -/
theorem Memory.read_writeAll (vs : List α) (m : Memory α) (i j : Nat) :
    Memory.read (Memory.writeAll m i vs) j =
      if i ≤ j ∧ j < i + vs.length then vs[j - i]? else Memory.read m j := by
  induction vs generalizing m i with
  | nil =>
    have : ¬(i ≤ j ∧ j < i + ([] : List α).length) := by simp
    rw [if_neg this]; rfl
  | cons v vs ih =>
    simp only [Memory.writeAll, ih, Memory.read_write, List.length_cons]
    by_cases h : j = i
    · subst h
      simp
    · by_cases h2 : i + 1 ≤ j ∧ j < i + 1 + vs.length
      · have h3 : i ≤ j ∧ j < i + (vs.length + 1) := by omega
        rw [if_pos h2, if_pos h3]
        have h4 : j - i = (j - (i + 1)) + 1 := by omega
        rw [h4, List.getElem?_cons_succ]
      · have h3 : ¬(i ≤ j ∧ j < i + (vs.length + 1)) := by omega
        rw [if_neg h2, if_neg h3, if_neg h]

/-- The indexes of a buffer after a write. -/
theorem Memory.mem_write {m : Memory α} {i : Nat} {v : α} {c : Nat × α} (h : c ∈ Memory.write m i v) :
    c = (i, v) ∨ c ∈ m := by
  induction m with
  | nil => simpa [Memory.write] using h
  | cons d m ih =>
    obtain ⟨k, w⟩ := d
    unfold Memory.write at h
    split at h
    · simpa using h
    · split at h
      · rcases List.mem_cons.1 h with h | h
        · exact .inl h
        · exact .inr (List.mem_cons_of_mem _ h)
      · rcases List.mem_cons.1 h with h | h
        · exact .inr (by simp [h])
        · exact (ih h).imp id (List.mem_cons_of_mem _)

/-- A write keeps the canonical form. -/
theorem Memory.wf_write {m : Memory α} (hm : Memory.wf m) (i : Nat) (v : α) : Memory.wf (Memory.write m i v) := by
  induction m with
  | nil => simp [Memory.write, Memory.wf]
  | cons d m ih =>
    obtain ⟨k, w⟩ := d
    obtain ⟨hk, hm'⟩ := List.pairwise_cons.1 hm
    unfold Memory.write
    split
    · refine List.pairwise_cons.2 ⟨fun c hc => ?_, hm⟩
      rcases List.mem_cons.1 hc with rfl | hc
      · assumption
      · have := hk c hc
        simp only at this ⊢
        omega
    · split
      · subst_vars
        exact List.pairwise_cons.2 ⟨hk, hm'⟩
      · refine List.pairwise_cons.2 ⟨fun c hc => ?_, ih hm'⟩
        rcases Memory.mem_write hc with rfl | hc
        · simp only
          omega
        · exact hk c hc

/-- Writing a sequence keeps the canonical form. -/
theorem Memory.wf_writeAll (vs : List α) {m : Memory α} (hm : Memory.wf m) (i : Nat) :
    Memory.wf (Memory.writeAll m i vs) := by
  induction vs generalizing m i with
  | nil => exact hm
  | cons v vs ih => exact ih (Memory.wf_write hm i v) (i + 1)

/-- A write below a bound keeps every index below it. -/
theorem Memory.range_write {m : Memory α} {n : Nat} (hm : ∀ c ∈ m, c.1 < n) {i : Nat} (hi : i < n) (v : α) :
    ∀ c ∈ Memory.write m i v, c.1 < n := by
  intro c hc
  rcases Memory.mem_write hc with rfl | hc
  · exact hi
  · exact hm c hc

/-- Writing a sequence below a bound keeps every index below it. -/
theorem Memory.range_writeAll (vs : List α) {m : Memory α} {n : Nat} (hm : ∀ c ∈ m, c.1 < n) {i : Nat}
    (hi : i + vs.length ≤ n) : ∀ c ∈ Memory.writeAll m i vs, c.1 < n := by
  induction vs generalizing m i with
  | nil => exact hm
  | cons v vs ih =>
    simp only [List.length_cons] at hi
    exact ih (Memory.range_write hm (by omega) v) (by omega)

/-- An unlisted index is exactly one that reads as no value. -/
theorem Memory.read_eq_none {m : Memory α} {i : Nat} (h : ∀ c ∈ m, c.1 ≠ i) : Memory.read m i = none := by
  induction m with
  | nil => rfl
  | cons c m ih =>
    obtain ⟨k, w⟩ := c
    have hk : i ≠ k := fun e => h (k, w) (by simp) e.symm
    rw [Memory.read_cons, if_neg hk]
    exact ih fun c hc => h c (List.mem_cons_of_mem _ hc)

end Sys2Proof.Machine
end

