-- ==== Sys2Proof/Laws/Operands.lean ====
section
/-! SUPPORT. The laws of operand assembly and of the frame layouts: splitting and assembling a word undo each other,
lengths, the bytes of a layout, and the CRC a frame carries. -/

namespace Sys2Proof.Machine

@[simp] theorem be16_hi8_lo8 (v : Word) : be16 (hi8 v) (lo8 v) = v := by
  apply BitVec.eq_of_getLsbD_eq
  intro i hi
  simp only [be16, hi8, lo8, BitVec.getLsbD_or, BitVec.getLsbD_shiftLeft, BitVec.getLsbD_setWidth,
    BitVec.getLsbD_extractLsb']
  by_cases h : i < 8
  · simp [h, hi]
  · have h1 : i - 8 < 8 := by omega
    have h2 : i - 8 < 16 := by omega
    have h3 : 8 + (i - 8) = i := by omega
    simp [h, h1, h2, h3, hi]

@[simp] theorem hi8_be16 (x y : Byte) : hi8 (be16 x y) = x := by
  apply BitVec.eq_of_getLsbD_eq
  intro i hi
  have h1 : 8 + i < 16 := by omega
  simp [be16, hi8, hi, h1]

@[simp] theorem lo8_be16 (x y : Byte) : lo8 (be16 x y) = y := by
  apply BitVec.eq_of_getLsbD_eq
  intro i hi
  have h2 : i < 16 := by omega
  simp [be16, lo8, hi, h2]

@[simp] theorem byteAt_cons_zero (b : Byte) (bs : List Byte) : byteAt (b :: bs) 0 = b := rfl

@[simp] theorem byteAt_cons_succ (b : Byte) (bs : List Byte) (i : Nat) : byteAt (b :: bs) (i + 1) = byteAt bs i := by
  simp [byteAt]

theorem byteAt_eq_getElem (bs : List Byte) {i : Nat} (h : i < bs.length) : byteAt bs i = bs[i] := by
  simp [byteAt, List.getD_eq_getElem?_getD, h]

theorem byteAt_append_left (as bs : List Byte) {i : Nat} (h : i < as.length) : byteAt (as ++ bs) i = byteAt as i := by
  simp [byteAt, List.getD_eq_getElem?_getD, List.getElem?_append_left h]

theorem byteAt_append_right (as bs : List Byte) (i : Nat) : byteAt (as ++ bs) (as.length + i) = byteAt bs i := by
  simp [byteAt, List.getD_eq_getElem?_getD, List.getElem?_append_right]

@[simp] theorem length_wordBytes (ws : List Word) : (wordBytes ws).length = 2 * ws.length := by
  induction ws with
  | nil => rfl
  | cons w ws ih => simp only [wordBytes, List.length_cons, ih]; omega

@[simp] theorem length_withCrc (bs : List Byte) : (withCrc bs).length = bs.length + 2 := by simp [withCrc]

@[simp] theorem length_shortFrame (a f : Byte) (x y : Word) : (shortFrame a f x y).length = 8 := by
  simp [shortFrame, header]

@[simp] theorem length_readResponse (a : Byte) (ws : List Word) :
    (readResponse a ws).length = 2 * ws.length + 5 := by
  simp [readResponse]

/-- Register k of the words' bytes. -/
theorem responseWord_wordBytes (a b c : Byte) (ws : List Word) (rest : List Byte) {k : Nat} (h : k < ws.length) :
    responseWord (a :: b :: c :: (wordBytes ws ++ rest)) k = ws[k] := by
  have key : ∀ (ws : List Word) (k : Nat) (h : k < ws.length),
      byteAt (wordBytes ws ++ rest) (2 * k) = hi8 ws[k] ∧ byteAt (wordBytes ws ++ rest) (2 * k + 1) = lo8 ws[k] := by
    intro ws
    induction ws with
    | nil => intro k h; simp at h
    | cons w ws ih =>
      intro k h
      cases k with
      | zero => simp [wordBytes]
      | succ k =>
        have e1 : 2 * (k + 1) = (2 * k + 1) + 1 := by omega
        have e2 : 2 * (k + 1) + 1 = ((2 * k + 1) + 1) + 1 := by omega
        have := ih k (by simpa using h)
        simpa [wordBytes, e1] using this
  have e3 : 3 + 2 * k = 2 * k + 1 + 1 + 1 := by omega
  have e4 : 4 + 2 * k = 2 * k + 1 + 1 + 1 + 1 := by omega
  simp only [responseWord, e3, e4, byteAt_cons_succ, (key ws k h).1, (key ws k h).2, be16_hi8_lo8]

/-- A frame that ends with its CRC passes the check (R103, R104). -/
@[simp] theorem crcOk_withCrc (bs : List Byte) : crcOk (withCrc bs) = true := by
  have h1 : byteAt (withCrc bs) (bs.length + 1) = hi8 (crc16 bs) := by
    rw [withCrc, byteAt_append_right]; rfl
  have h2 : byteAt (withCrc bs) (bs.length + 0) = lo8 (crc16 bs) := by
    rw [withCrc, byteAt_append_right]; rfl
  have h3 : (withCrc bs).take bs.length = bs := by simp [withCrc]
  simp only [crcOk, length_withCrc, Nat.add_sub_cancel, show bs.length + 2 - 1 = bs.length + 1 from rfl, h1,
    show byteAt (withCrc bs) bs.length = lo8 (crc16 bs) from h2, h3, be16_hi8_lo8, beq_self_eq_true]

/-- The illegal words of R82, as the rule puts it. -/
theorem isIllegal_iff (w : Word) :
    isIllegal w = true ↔ w.extractLsb' 4 12 ≠ 0#12 ∨ 0xB ≤ (w.extractLsb' 0 4).toNat := by
  simp [isIllegal, opOf, BitVec.ule, BitVec.extractLsb'_toNat]

/-- A word that is not illegal is below 0xB. -/
theorem toNat_lt_of_legal {w : Word} (h : isIllegal w = false) : w.toNat < 0xB := by
  have h' := mt (isIllegal_iff w).2 (by simp [h])
  rw [not_or, not_not, not_le] at h'
  have h1 := congrArg BitVec.toNat h'.1
  have h2 := h'.2
  simp only [BitVec.extractLsb'_toNat, Nat.shiftRight_eq_div_pow, BitVec.toNat_ofNat] at h1 h2
  have := w.isLt
  omega

theorem wf_rdrsp_iff (slave : Byte) (regs : List Word) :
    (Instr.rdrsp slave regs).wf = true ↔ regs.length ≤ 125 := by
  simp [Instr.wf, Config.maxReadCount]

end Sys2Proof.Machine
end

