-- ==== Sys2Proof/Laws/State.lean ====
section
/-! SUPPORT. For each named update of the state, one lemma per field it writes, and one per field or group it leaves.
All hold by rfl, so no later proof unfolds a record update. -/

namespace Sys2Proof.Machine

section Updates

variable (s : State)


/-! ### emit -/

@[simp] theorem emit_regs (o : Output) : (s.emit o).regs = s.regs := rfl
@[simp] theorem emit_bufs (o : Output) : (s.emit o).bufs = s.bufs := rfl
@[simp] theorem emit_arb (o : Output) : (s.emit o).arb = s.arb := rfl
@[simp] theorem emit_env_clocks (o : Output) : (s.emit o).env.clocks = s.env.clocks := rfl
@[simp] theorem emit_env_phyAnswers (o : Output) : (s.emit o).env.phyAnswers = s.env.phyAnswers := rfl
@[simp] theorem emit_env_draws (o : Output) : (s.emit o).env.draws = s.env.draws := rfl
@[simp] theorem emit_env_epoch (o : Output) : (s.emit o).env.epoch = s.env.epoch := rfl
@[simp] theorem emit_env_trace (o : Output) : (s.emit o).env.trace = s.env.trace ++ [o] := rfl

/-! ### finish -/

@[simp] theorem finish_regs_conn (op : BitVec 4) (c : Code) : (s.finish op c).regs.conn = s.regs.conn := rfl
@[simp] theorem finish_regs_done (op : BitVec 4) (c : Code) : (s.finish op c).regs.done = true := rfl
@[simp] theorem finish_regs_late (op : BitVec 4) (c : Code) : (s.finish op c).regs.late = s.regs.late := rfl
@[simp] theorem finish_regs_ovf (op : BitVec 4) (c : Code) : (s.finish op c).regs.ovf = s.regs.ovf := rfl
@[simp] theorem finish_regs_aborted (op : BitVec 4) (c : Code) : (s.finish op c).regs.aborted = s.regs.aborted := rfl
@[simp] theorem finish_regs_result (op : BitVec 4) (c : Code) : (s.finish op c).regs.result = ⟨op, c⟩ := rfl
@[simp] theorem finish_regs_reject (op : BitVec 4) (c : Code) : (s.finish op c).regs.reject = s.regs.reject := rfl
@[simp] theorem finish_regs_slave (op : BitVec 4) (c : Code) : (s.finish op c).regs.slave = s.regs.slave := rfl
@[simp] theorem finish_regs_arg0 (op : BitVec 4) (c : Code) : (s.finish op c).regs.arg0 = s.regs.arg0 := rfl
@[simp] theorem finish_regs_arg1 (op : BitVec 4) (c : Code) : (s.finish op c).regs.arg1 = s.regs.arg1 := rfl
@[simp] theorem finish_regs_timeout (op : BitVec 4) (c : Code) : (s.finish op c).regs.timeout = s.regs.timeout := rfl
@[simp] theorem finish_regs_guard (op : BitVec 4) (c : Code) : (s.finish op c).regs.guard = s.regs.guard := rfl
@[simp] theorem finish_regs_gap (op : BitVec 4) (c : Code) : (s.finish op c).regs.gap = s.regs.gap := rfl
@[simp] theorem finish_regs_txlen (op : BitVec 4) (c : Code) : (s.finish op c).regs.txlen = s.regs.txlen := rfl
@[simp] theorem finish_regs_rxlen (op : BitVec 4) (c : Code) : (s.finish op c).regs.rxlen = s.regs.rxlen := rfl
@[simp] theorem finish_regs_crc (op : BitVec 4) (c : Code) : (s.finish op c).regs.crc = s.regs.crc := rfl
@[simp] theorem finish_regs_bytecnt (op : BitVec 4) (c : Code) : (s.finish op c).regs.bytecnt = s.regs.bytecnt := rfl
@[simp] theorem finish_regs_nregs (op : BitVec 4) (c : Code) : (s.finish op c).regs.nregs = s.regs.nregs := rfl
@[simp] theorem finish_regs_echoAddr (op : BitVec 4) (c : Code) : (s.finish op c).regs.echoAddr = s.regs.echoAddr := rfl
@[simp] theorem finish_regs_echoValue (op : BitVec 4) (c : Code) : (s.finish op c).regs.echoValue = s.regs.echoValue := rfl
@[simp] theorem finish_regs_rxhdr (op : BitVec 4) (c : Code) : (s.finish op c).regs.rxhdr = s.regs.rxhdr := rfl
@[simp] theorem finish_bufs (op : BitVec 4) (c : Code) : (s.finish op c).bufs = s.bufs := rfl
@[simp] theorem finish_arb (op : BitVec 4) (c : Code) : (s.finish op c).arb = s.arb := rfl
@[simp] theorem finish_env (op : BitVec 4) (c : Code) : (s.finish op c).env = s.env := rfl

/-! ### reject -/

@[simp] theorem reject_regs_conn (op : BitVec 4) (c : Code) : (s.reject op c).regs.conn = s.regs.conn := rfl
@[simp] theorem reject_regs_done (op : BitVec 4) (c : Code) : (s.reject op c).regs.done = s.regs.done := rfl
@[simp] theorem reject_regs_late (op : BitVec 4) (c : Code) : (s.reject op c).regs.late = s.regs.late := rfl
@[simp] theorem reject_regs_ovf (op : BitVec 4) (c : Code) : (s.reject op c).regs.ovf = s.regs.ovf := rfl
@[simp] theorem reject_regs_aborted (op : BitVec 4) (c : Code) : (s.reject op c).regs.aborted = s.regs.aborted := rfl
@[simp] theorem reject_regs_result (op : BitVec 4) (c : Code) : (s.reject op c).regs.result = s.regs.result := rfl
@[simp] theorem reject_regs_reject (op : BitVec 4) (c : Code) : (s.reject op c).regs.reject = ⟨op, c⟩ := rfl
@[simp] theorem reject_regs_slave (op : BitVec 4) (c : Code) : (s.reject op c).regs.slave = s.regs.slave := rfl
@[simp] theorem reject_regs_arg0 (op : BitVec 4) (c : Code) : (s.reject op c).regs.arg0 = s.regs.arg0 := rfl
@[simp] theorem reject_regs_arg1 (op : BitVec 4) (c : Code) : (s.reject op c).regs.arg1 = s.regs.arg1 := rfl
@[simp] theorem reject_regs_timeout (op : BitVec 4) (c : Code) : (s.reject op c).regs.timeout = s.regs.timeout := rfl
@[simp] theorem reject_regs_guard (op : BitVec 4) (c : Code) : (s.reject op c).regs.guard = s.regs.guard := rfl
@[simp] theorem reject_regs_gap (op : BitVec 4) (c : Code) : (s.reject op c).regs.gap = s.regs.gap := rfl
@[simp] theorem reject_regs_txlen (op : BitVec 4) (c : Code) : (s.reject op c).regs.txlen = s.regs.txlen := rfl
@[simp] theorem reject_regs_rxlen (op : BitVec 4) (c : Code) : (s.reject op c).regs.rxlen = s.regs.rxlen := rfl
@[simp] theorem reject_regs_crc (op : BitVec 4) (c : Code) : (s.reject op c).regs.crc = s.regs.crc := rfl
@[simp] theorem reject_regs_bytecnt (op : BitVec 4) (c : Code) : (s.reject op c).regs.bytecnt = s.regs.bytecnt := rfl
@[simp] theorem reject_regs_nregs (op : BitVec 4) (c : Code) : (s.reject op c).regs.nregs = s.regs.nregs := rfl
@[simp] theorem reject_regs_echoAddr (op : BitVec 4) (c : Code) : (s.reject op c).regs.echoAddr = s.regs.echoAddr := rfl
@[simp] theorem reject_regs_echoValue (op : BitVec 4) (c : Code) : (s.reject op c).regs.echoValue = s.regs.echoValue := rfl
@[simp] theorem reject_regs_rxhdr (op : BitVec 4) (c : Code) : (s.reject op c).regs.rxhdr = s.regs.rxhdr := rfl
@[simp] theorem reject_bufs (op : BitVec 4) (c : Code) : (s.reject op c).bufs = s.bufs := rfl
@[simp] theorem reject_arb (op : BitVec 4) (c : Code) : (s.reject op c).arb = s.arb := rfl
@[simp] theorem reject_env (op : BitVec 4) (c : Code) : (s.reject op c).env = s.env := rfl

/-! ### accept -/

@[simp] theorem accept_regs_conn : (s.accept).regs.conn = s.regs.conn := rfl
@[simp] theorem accept_regs_done : (s.accept).regs.done = false := rfl
@[simp] theorem accept_regs_late : (s.accept).regs.late = false := rfl
@[simp] theorem accept_regs_ovf : (s.accept).regs.ovf = false := rfl
@[simp] theorem accept_regs_aborted : (s.accept).regs.aborted = false := rfl
@[simp] theorem accept_regs_result : (s.accept).regs.result = s.regs.result := rfl
@[simp] theorem accept_regs_reject : (s.accept).regs.reject = ⟨0#4, .ok⟩ := rfl
@[simp] theorem accept_regs_slave : (s.accept).regs.slave = s.regs.slave := rfl
@[simp] theorem accept_regs_arg0 : (s.accept).regs.arg0 = s.regs.arg0 := rfl
@[simp] theorem accept_regs_arg1 : (s.accept).regs.arg1 = s.regs.arg1 := rfl
@[simp] theorem accept_regs_timeout : (s.accept).regs.timeout = s.regs.timeout := rfl
@[simp] theorem accept_regs_guard : (s.accept).regs.guard = s.regs.guard := rfl
@[simp] theorem accept_regs_gap : (s.accept).regs.gap = s.regs.gap := rfl
@[simp] theorem accept_regs_txlen : (s.accept).regs.txlen = s.regs.txlen := rfl
@[simp] theorem accept_regs_rxlen : (s.accept).regs.rxlen = s.regs.rxlen := rfl
@[simp] theorem accept_regs_crc : (s.accept).regs.crc = s.regs.crc := rfl
@[simp] theorem accept_regs_bytecnt : (s.accept).regs.bytecnt = s.regs.bytecnt := rfl
@[simp] theorem accept_regs_nregs : (s.accept).regs.nregs = s.regs.nregs := rfl
@[simp] theorem accept_regs_echoAddr : (s.accept).regs.echoAddr = s.regs.echoAddr := rfl
@[simp] theorem accept_regs_echoValue : (s.accept).regs.echoValue = s.regs.echoValue := rfl
@[simp] theorem accept_regs_rxhdr : (s.accept).regs.rxhdr = s.regs.rxhdr := rfl
@[simp] theorem accept_bufs : (s.accept).bufs = s.bufs := rfl
@[simp] theorem accept_arb : (s.accept).arb = s.arb := rfl
@[simp] theorem accept_env : (s.accept).env = s.env := rfl

/-! ### endXact -/

@[simp] theorem endXact_regs_conn (c : Code) : (s.endXact c).regs.conn = s.regs.conn := rfl
@[simp] theorem endXact_regs_done (c : Code) : (s.endXact c).regs.done = true := rfl
@[simp] theorem endXact_regs_late (c : Code) : (s.endXact c).regs.late = s.regs.late := rfl
@[simp] theorem endXact_regs_ovf (c : Code) : (s.endXact c).regs.ovf = s.regs.ovf := rfl
@[simp] theorem endXact_regs_aborted (c : Code) : (s.endXact c).regs.aborted = s.regs.aborted := rfl
@[simp] theorem endXact_regs_result (c : Code) : (s.endXact c).regs.result = ⟨s.arb.xop.op, c⟩ := rfl
@[simp] theorem endXact_regs_reject (c : Code) : (s.endXact c).regs.reject = s.regs.reject := rfl
@[simp] theorem endXact_regs_slave (c : Code) : (s.endXact c).regs.slave = s.regs.slave := rfl
@[simp] theorem endXact_regs_arg0 (c : Code) : (s.endXact c).regs.arg0 = s.regs.arg0 := rfl
@[simp] theorem endXact_regs_arg1 (c : Code) : (s.endXact c).regs.arg1 = s.regs.arg1 := rfl
@[simp] theorem endXact_regs_timeout (c : Code) : (s.endXact c).regs.timeout = s.regs.timeout := rfl
@[simp] theorem endXact_regs_guard (c : Code) : (s.endXact c).regs.guard = s.regs.guard := rfl
@[simp] theorem endXact_regs_gap (c : Code) : (s.endXact c).regs.gap = s.regs.gap := rfl
@[simp] theorem endXact_regs_txlen (c : Code) : (s.endXact c).regs.txlen = s.regs.txlen := rfl
@[simp] theorem endXact_regs_rxlen (c : Code) : (s.endXact c).regs.rxlen = s.regs.rxlen := rfl
@[simp] theorem endXact_regs_crc (c : Code) : (s.endXact c).regs.crc = s.regs.crc := rfl
@[simp] theorem endXact_regs_bytecnt (c : Code) : (s.endXact c).regs.bytecnt = s.regs.bytecnt := rfl
@[simp] theorem endXact_regs_nregs (c : Code) : (s.endXact c).regs.nregs = s.regs.nregs := rfl
@[simp] theorem endXact_regs_echoAddr (c : Code) : (s.endXact c).regs.echoAddr = s.regs.echoAddr := rfl
@[simp] theorem endXact_regs_echoValue (c : Code) : (s.endXact c).regs.echoValue = s.regs.echoValue := rfl
@[simp] theorem endXact_regs_rxhdr (c : Code) : (s.endXact c).regs.rxhdr = s.regs.rxhdr := rfl
@[simp] theorem endXact_bufs (c : Code) : (s.endXact c).bufs = s.bufs := rfl
@[simp] theorem endXact_arb_phase (c : Code) : (s.endXact c).arb.phase = .idle := rfl
@[simp] theorem endXact_arb_xop (c : Code) : (s.endXact c).arb.xop = .none := rfl
@[simp] theorem endXact_arb_txptr (c : Code) : (s.endXact c).arb.txptr = 0#9 := rfl
@[simp] theorem endXact_arb_gcnt (c : Code) : (s.endXact c).arb.gcnt = 0#8 := rfl
@[simp] theorem endXact_arb_tocnt (c : Code) : (s.endXact c).arb.tocnt = 0#16 := rfl
@[simp] theorem endXact_arb_gapcnt (c : Code) : (s.endXact c).arb.gapcnt = 0#8 := rfl
@[simp] theorem endXact_arb_port (c : Code) : (s.endXact c).arb.port = s.arb.port := rfl
@[simp] theorem endXact_env (c : Code) : (s.endXact c).env = s.env := rfl

/-! ### clearNregs -/

@[simp] theorem clearNregs_regs_conn : (s.clearNregs).regs.conn = s.regs.conn := rfl
@[simp] theorem clearNregs_regs_done : (s.clearNregs).regs.done = s.regs.done := rfl
@[simp] theorem clearNregs_regs_late : (s.clearNregs).regs.late = s.regs.late := rfl
@[simp] theorem clearNregs_regs_ovf : (s.clearNregs).regs.ovf = s.regs.ovf := rfl
@[simp] theorem clearNregs_regs_aborted : (s.clearNregs).regs.aborted = s.regs.aborted := rfl
@[simp] theorem clearNregs_regs_result : (s.clearNregs).regs.result = s.regs.result := rfl
@[simp] theorem clearNregs_regs_reject : (s.clearNregs).regs.reject = s.regs.reject := rfl
@[simp] theorem clearNregs_regs_slave : (s.clearNregs).regs.slave = s.regs.slave := rfl
@[simp] theorem clearNregs_regs_arg0 : (s.clearNregs).regs.arg0 = s.regs.arg0 := rfl
@[simp] theorem clearNregs_regs_arg1 : (s.clearNregs).regs.arg1 = s.regs.arg1 := rfl
@[simp] theorem clearNregs_regs_timeout : (s.clearNregs).regs.timeout = s.regs.timeout := rfl
@[simp] theorem clearNregs_regs_guard : (s.clearNregs).regs.guard = s.regs.guard := rfl
@[simp] theorem clearNregs_regs_gap : (s.clearNregs).regs.gap = s.regs.gap := rfl
@[simp] theorem clearNregs_regs_txlen : (s.clearNregs).regs.txlen = s.regs.txlen := rfl
@[simp] theorem clearNregs_regs_rxlen : (s.clearNregs).regs.rxlen = s.regs.rxlen := rfl
@[simp] theorem clearNregs_regs_crc : (s.clearNregs).regs.crc = s.regs.crc := rfl
@[simp] theorem clearNregs_regs_bytecnt : (s.clearNregs).regs.bytecnt = s.regs.bytecnt := rfl
@[simp] theorem clearNregs_regs_nregs : (s.clearNregs).regs.nregs = 0#7 := rfl
@[simp] theorem clearNregs_regs_echoAddr : (s.clearNregs).regs.echoAddr = s.regs.echoAddr := rfl
@[simp] theorem clearNregs_regs_echoValue : (s.clearNregs).regs.echoValue = s.regs.echoValue := rfl
@[simp] theorem clearNregs_regs_rxhdr : (s.clearNregs).regs.rxhdr = s.regs.rxhdr := rfl
@[simp] theorem clearNregs_bufs : (s.clearNregs).bufs = s.bufs := rfl
@[simp] theorem clearNregs_arb : (s.clearNregs).arb = s.arb := rfl
@[simp] theorem clearNregs_env : (s.clearNregs).env = s.env := rfl

/-! ### rxDiscard -/

@[simp] theorem rxDiscard_regs_conn : (s.rxDiscard).regs.conn = s.regs.conn := rfl
@[simp] theorem rxDiscard_regs_done : (s.rxDiscard).regs.done = s.regs.done := rfl
@[simp] theorem rxDiscard_regs_late : (s.rxDiscard).regs.late = true := rfl
@[simp] theorem rxDiscard_regs_ovf : (s.rxDiscard).regs.ovf = s.regs.ovf := rfl
@[simp] theorem rxDiscard_regs_aborted : (s.rxDiscard).regs.aborted = s.regs.aborted := rfl
@[simp] theorem rxDiscard_regs_result : (s.rxDiscard).regs.result = s.regs.result := rfl
@[simp] theorem rxDiscard_regs_reject : (s.rxDiscard).regs.reject = s.regs.reject := rfl
@[simp] theorem rxDiscard_regs_slave : (s.rxDiscard).regs.slave = s.regs.slave := rfl
@[simp] theorem rxDiscard_regs_arg0 : (s.rxDiscard).regs.arg0 = s.regs.arg0 := rfl
@[simp] theorem rxDiscard_regs_arg1 : (s.rxDiscard).regs.arg1 = s.regs.arg1 := rfl
@[simp] theorem rxDiscard_regs_timeout : (s.rxDiscard).regs.timeout = s.regs.timeout := rfl
@[simp] theorem rxDiscard_regs_guard : (s.rxDiscard).regs.guard = s.regs.guard := rfl
@[simp] theorem rxDiscard_regs_gap : (s.rxDiscard).regs.gap = s.regs.gap := rfl
@[simp] theorem rxDiscard_regs_txlen : (s.rxDiscard).regs.txlen = s.regs.txlen := rfl
@[simp] theorem rxDiscard_regs_rxlen : (s.rxDiscard).regs.rxlen = s.regs.rxlen := rfl
@[simp] theorem rxDiscard_regs_crc : (s.rxDiscard).regs.crc = s.regs.crc := rfl
@[simp] theorem rxDiscard_regs_bytecnt : (s.rxDiscard).regs.bytecnt = s.regs.bytecnt := rfl
@[simp] theorem rxDiscard_regs_nregs : (s.rxDiscard).regs.nregs = s.regs.nregs := rfl
@[simp] theorem rxDiscard_regs_echoAddr : (s.rxDiscard).regs.echoAddr = s.regs.echoAddr := rfl
@[simp] theorem rxDiscard_regs_echoValue : (s.rxDiscard).regs.echoValue = s.regs.echoValue := rfl
@[simp] theorem rxDiscard_regs_rxhdr : (s.rxDiscard).regs.rxhdr = s.regs.rxhdr := rfl
@[simp] theorem rxDiscard_bufs : (s.rxDiscard).bufs = s.bufs := rfl
@[simp] theorem rxDiscard_arb : (s.rxDiscard).arb = s.arb := rfl
@[simp] theorem rxDiscard_env : (s.rxDiscard).env = s.env := rfl

/-! ### enterTx -/

@[simp] theorem enterTx_regs : (s.enterTx).regs = s.regs := rfl
@[simp] theorem enterTx_bufs : (s.enterTx).bufs = s.bufs := rfl
@[simp] theorem enterTx_arb_phase : (s.enterTx).arb.phase = .tx := rfl
@[simp] theorem enterTx_arb_xop : (s.enterTx).arb.xop = s.arb.xop := rfl
@[simp] theorem enterTx_arb_txptr : (s.enterTx).arb.txptr = 0#9 := rfl
@[simp] theorem enterTx_arb_gcnt : (s.enterTx).arb.gcnt = s.arb.gcnt := rfl
@[simp] theorem enterTx_arb_tocnt : (s.enterTx).arb.tocnt = s.arb.tocnt := rfl
@[simp] theorem enterTx_arb_gapcnt : (s.enterTx).arb.gapcnt = s.arb.gapcnt := rfl
@[simp] theorem enterTx_arb_port : (s.enterTx).arb.port = s.arb.port := rfl
@[simp] theorem enterTx_env : (s.enterTx).env = s.env := rfl

/-! ### enterAccum -/

@[simp] theorem enterAccum_regs : (s.enterAccum).regs = s.regs := rfl
@[simp] theorem enterAccum_bufs : (s.enterAccum).bufs = s.bufs := rfl
@[simp] theorem enterAccum_arb_phase : (s.enterAccum).arb.phase = .accum := rfl
@[simp] theorem enterAccum_arb_xop : (s.enterAccum).arb.xop = s.arb.xop := rfl
@[simp] theorem enterAccum_arb_txptr : (s.enterAccum).arb.txptr = s.arb.txptr := rfl
@[simp] theorem enterAccum_arb_gcnt : (s.enterAccum).arb.gcnt = s.arb.gcnt := rfl
@[simp] theorem enterAccum_arb_tocnt : (s.enterAccum).arb.tocnt = s.arb.tocnt := rfl
@[simp] theorem enterAccum_arb_gapcnt : (s.enterAccum).arb.gapcnt = s.regs.gap := rfl
@[simp] theorem enterAccum_arb_port : (s.enterAccum).arb.port = s.arb.port := rfl
@[simp] theorem enterAccum_env : (s.enterAccum).env = s.env := rfl

/-! ### encFrame -/

@[simp] theorem encFrame_regs_conn (f : Byte) : (s.encFrame f).regs.conn = s.regs.conn := rfl
@[simp] theorem encFrame_regs_done (f : Byte) : (s.encFrame f).regs.done = s.regs.done := rfl
@[simp] theorem encFrame_regs_late (f : Byte) : (s.encFrame f).regs.late = s.regs.late := rfl
@[simp] theorem encFrame_regs_ovf (f : Byte) : (s.encFrame f).regs.ovf = s.regs.ovf := rfl
@[simp] theorem encFrame_regs_aborted (f : Byte) : (s.encFrame f).regs.aborted = s.regs.aborted := rfl
@[simp] theorem encFrame_regs_result (f : Byte) : (s.encFrame f).regs.result = s.regs.result := rfl
@[simp] theorem encFrame_regs_reject (f : Byte) : (s.encFrame f).regs.reject = s.regs.reject := rfl
@[simp] theorem encFrame_regs_slave (f : Byte) : (s.encFrame f).regs.slave = s.regs.slave := rfl
@[simp] theorem encFrame_regs_arg0 (f : Byte) : (s.encFrame f).regs.arg0 = s.regs.arg0 := rfl
@[simp] theorem encFrame_regs_arg1 (f : Byte) : (s.encFrame f).regs.arg1 = s.regs.arg1 := rfl
@[simp] theorem encFrame_regs_timeout (f : Byte) : (s.encFrame f).regs.timeout = s.regs.timeout := rfl
@[simp] theorem encFrame_regs_guard (f : Byte) : (s.encFrame f).regs.guard = s.regs.guard := rfl
@[simp] theorem encFrame_regs_gap (f : Byte) : (s.encFrame f).regs.gap = s.regs.gap := rfl
@[simp] theorem encFrame_regs_txlen (f : Byte) : (s.encFrame f).regs.txlen = 8#9 := rfl
@[simp] theorem encFrame_regs_rxlen (f : Byte) : (s.encFrame f).regs.rxlen = s.regs.rxlen := rfl
@[simp] theorem encFrame_regs_crc (f : Byte) : (s.encFrame f).regs.crc = crc16 (header s.regs.slave f s.regs.arg0 s.regs.arg1) := rfl
@[simp] theorem encFrame_regs_bytecnt (f : Byte) : (s.encFrame f).regs.bytecnt = s.regs.bytecnt := rfl
@[simp] theorem encFrame_regs_nregs (f : Byte) : (s.encFrame f).regs.nregs = s.regs.nregs := rfl
@[simp] theorem encFrame_regs_echoAddr (f : Byte) : (s.encFrame f).regs.echoAddr = s.regs.echoAddr := rfl
@[simp] theorem encFrame_regs_echoValue (f : Byte) : (s.encFrame f).regs.echoValue = s.regs.echoValue := rfl
@[simp] theorem encFrame_regs_rxhdr (f : Byte) : (s.encFrame f).regs.rxhdr = s.regs.rxhdr := rfl
@[simp] theorem encFrame_bufs_tx (f : Byte) : (s.encFrame f).bufs.tx = Memory.writeAll s.bufs.tx 0 (shortFrame s.regs.slave f s.regs.arg0 s.regs.arg1) := rfl
@[simp] theorem encFrame_bufs_rx (f : Byte) : (s.encFrame f).bufs.rx = s.bufs.rx := rfl
@[simp] theorem encFrame_bufs_regval (f : Byte) : (s.encFrame f).bufs.regval = s.bufs.regval := rfl
@[simp] theorem encFrame_arb (f : Byte) : (s.encFrame f).arb = s.arb := rfl
@[simp] theorem encFrame_env (f : Byte) : (s.encFrame f).env = s.env := rfl

end Updates

end Sys2Proof.Machine
end

