-- ==== Sys2Proof/Laws/Ops.lean ====
section
/-! SUPPORT. What the shared operations can do: the host's read of each address, a host write, the issue of a command,
and the decoder's outputs. -/

namespace Sys2Proof.Machine

variable (s : State)

/-! ### The host read of each register (10_state.md R23) -/

@[simp] theorem peek_cmd : s.peek 0x000#10 = 0#16 := rfl
@[simp] theorem peek_status : s.peek 0x001#10 = s.status := rfl
@[simp] theorem peek_result : s.peek 0x002#10 = s.regs.result.word := rfl
@[simp] theorem peek_reject : s.peek 0x003#10 = s.regs.reject.word := rfl
@[simp] theorem peek_slave : s.peek 0x004#10 = s.regs.slave.setWidth 16 := rfl
@[simp] theorem peek_arg0 : s.peek 0x005#10 = s.regs.arg0 := rfl
@[simp] theorem peek_arg1 : s.peek 0x006#10 = s.regs.arg1 := rfl
@[simp] theorem peek_timeout : s.peek 0x007#10 = s.regs.timeout := rfl
@[simp] theorem peek_guard : s.peek 0x008#10 = s.regs.guard.setWidth 16 := rfl
@[simp] theorem peek_gap : s.peek 0x009#10 = s.regs.gap.setWidth 16 := rfl
@[simp] theorem peek_txlen : s.peek 0x00A#10 = s.regs.txlen.setWidth 16 := rfl
@[simp] theorem peek_rxlen : s.peek 0x00B#10 = s.regs.rxlen.setWidth 16 := rfl
@[simp] theorem peek_crc : s.peek 0x00C#10 = s.regs.crc := rfl
@[simp] theorem peek_bytecnt : s.peek 0x00D#10 = s.regs.bytecnt.setWidth 16 := rfl
@[simp] theorem peek_nregs : s.peek 0x00E#10 = s.regs.nregs.setWidth 16 := rfl
@[simp] theorem peek_echoAddr : s.peek 0x00F#10 = s.regs.echoAddr := rfl
@[simp] theorem peek_echoValue : s.peek 0x010#10 = s.regs.echoValue := rfl
@[simp] theorem peek_rxhdr : s.peek 0x011#10 = s.regs.rxhdr := rfl

theorem peek_txbuf {i : Nat} (h : i < 256) : s.peek (BitVec.ofNat 10 (0x100 + i)) = (s.txByte i).setWidth 16 := by
  have e : (BitVec.ofNat 10 (0x100 + i)).toNat = 0x100 + i := by simp; omega
  simp only [State.peek, e]
  iterate 19 rw [if_neg (by omega)]
  rw [if_pos (by omega), Nat.add_sub_cancel_left]

theorem peek_rxbuf {i : Nat} (h : i < 256) : s.peek (BitVec.ofNat 10 (0x200 + i)) = (s.rxByte i).setWidth 16 := by
  have e : (BitVec.ofNat 10 (0x200 + i)).toNat = 0x200 + i := by simp; omega
  simp only [State.peek, e]
  iterate 20 rw [if_neg (by omega)]
  rw [if_pos (by omega), Nat.add_sub_cancel_left]

theorem peek_regval {i : Nat} (h : i < 125) : s.peek (BitVec.ofNat 10 (0x300 + i)) = s.regvalWord i := by
  have e : (BitVec.ofNat 10 (0x300 + i)).toNat = 0x300 + i := by simp; omega
  simp only [State.peek, e]
  iterate 21 rw [if_neg (by omega)]
  rw [if_pos (by omega), Nat.add_sub_cancel_left]

/-- What a host read of any address depends on: two states that agree there read the same. -/
theorem peek_congr {s t : State} {a : HostAddr} (status : a.toNat = 0x001 → t.status = s.status)
    (result : a.toNat = 0x002 → t.regs.result = s.regs.result) (reject : a.toNat = 0x003 → t.regs.reject = s.regs.reject)
    (slave : a.toNat = 0x004 → t.regs.slave = s.regs.slave) (arg0 : a.toNat = 0x005 → t.regs.arg0 = s.regs.arg0)
    (arg1 : a.toNat = 0x006 → t.regs.arg1 = s.regs.arg1) (timeout : a.toNat = 0x007 → t.regs.timeout = s.regs.timeout)
    (guard : a.toNat = 0x008 → t.regs.guard = s.regs.guard) (gap : a.toNat = 0x009 → t.regs.gap = s.regs.gap)
    (txlen : a.toNat = 0x00A → t.regs.txlen = s.regs.txlen) (rxlen : a.toNat = 0x00B → t.regs.rxlen = s.regs.rxlen)
    (crc : a.toNat = 0x00C → t.regs.crc = s.regs.crc) (bytecnt : a.toNat = 0x00D → t.regs.bytecnt = s.regs.bytecnt)
    (nregs : a.toNat = 0x00E → t.regs.nregs = s.regs.nregs)
    (echoAddr : a.toNat = 0x00F → t.regs.echoAddr = s.regs.echoAddr)
    (echoValue : a.toNat = 0x010 → t.regs.echoValue = s.regs.echoValue)
    (rxhdr : a.toNat = 0x011 → t.regs.rxhdr = s.regs.rxhdr)
    (tx : ∀ i < 256, a.toNat = 0x100 + i → t.txByte i = s.txByte i)
    (rx : ∀ i < 256, a.toNat = 0x200 + i → t.rxByte i = s.rxByte i)
    (regval : ∀ i < 125, a.toNat = 0x300 + i → t.regvalWord i = s.regvalWord i) : t.peek a = s.peek a := by
  unfold State.peek
  dsimp only
  refine ite_congr rfl (fun _ => rfl) fun _ => ?_
  refine ite_congr rfl status fun _ => ?_
  refine ite_congr rfl (fun h => by rw [result h]) fun _ => ?_
  refine ite_congr rfl (fun h => by rw [reject h]) fun _ => ?_
  refine ite_congr rfl (fun h => by rw [slave h]) fun _ => ?_
  refine ite_congr rfl (fun h => by rw [arg0 h]) fun _ => ?_
  refine ite_congr rfl (fun h => by rw [arg1 h]) fun _ => ?_
  refine ite_congr rfl (fun h => by rw [timeout h]) fun _ => ?_
  refine ite_congr rfl (fun h => by rw [guard h]) fun _ => ?_
  refine ite_congr rfl (fun h => by rw [gap h]) fun _ => ?_
  refine ite_congr rfl (fun h => by rw [txlen h]) fun _ => ?_
  refine ite_congr rfl (fun h => by rw [rxlen h]) fun _ => ?_
  refine ite_congr rfl (fun h => by rw [crc h]) fun _ => ?_
  refine ite_congr rfl (fun h => by rw [bytecnt h]) fun _ => ?_
  refine ite_congr rfl (fun h => by rw [nregs h]) fun _ => ?_
  refine ite_congr rfl (fun h => by rw [echoAddr h]) fun _ => ?_
  refine ite_congr rfl (fun h => by rw [echoValue h]) fun _ => ?_
  refine ite_congr rfl (fun h => by rw [rxhdr h]) fun _ => ?_
  refine ite_congr rfl (fun _ => rfl) fun _ => ?_
  refine ite_congr rfl (fun _ => by rw [tx _ (by omega) (by omega)]) fun _ => ?_
  refine ite_congr rfl (fun _ => by rw [rx _ (by omega) (by omega)]) fun _ => ?_
  exact ite_congr rfl (fun _ => regval _ (by omega) (by omega)) fun _ => rfl

/-! ### Issue (60_exceptions.md R172) -/

theorem issue_of_busy {s : State} (h : s.busy = true) (op : BitVec 4) (run : State → State) :
    s.issue op run = s.reject op .busy := by simp [State.issue, h]

theorem issue_of_free {s : State} (h : s.busy = false) (op : BitVec 4) (run : State → State) :
    s.issue op run = run s.accept := by simp [State.issue, h]

theorem busy_eq_false_iff {s : State} : s.busy = false ↔ s.arb.phase = .idle := by simp [State.busy]

theorem busy_eq_true_iff {s : State} : s.busy = true ↔ s.arb.phase ≠ .idle := by simp [State.busy]

/-- BUSY depends on PHASE alone. -/
theorem busy_congr {s t : State} (h : t.arb.phase = s.arb.phase) : t.busy = s.busy := by simp [State.busy, h]

@[simp] theorem busy_accept : s.accept.busy = s.busy := rfl

@[simp] theorem busy_endXact (c : Code) : (s.endXact c).busy = false := rfl

/-! ### A buffer byte depends on the buffer and the epoch alone -/

theorem txByte_congr {s t : State} (h : t.bufs.tx = s.bufs.tx) (he : t.env.epoch = s.env.epoch) (i : Nat) :
    t.txByte i = s.txByte i := by simp [State.txByte, h, he]

theorem rxByte_congr {s t : State} (h : t.bufs.rx = s.bufs.rx) (he : t.env.epoch = s.env.epoch) (i : Nat) :
    t.rxByte i = s.rxByte i := by simp [State.rxByte, h, he]

theorem regvalWord_congr {s t : State} (h : t.bufs.regval = s.bufs.regval) (he : t.env.epoch = s.env.epoch) (i : Nat) :
    t.regvalWord i = s.regvalWord i := by simp [State.regvalWord, h, he]

/-- TXBUF[0..TXLEN) depends on TXLEN, the buffer and the epoch alone. -/
theorem txBytes_congr {s t : State} (hl : t.regs.txlen = s.regs.txlen) (h : t.bufs.tx = s.bufs.tx)
    (he : t.env.epoch = s.env.epoch) : t.txBytes = s.txBytes := by
  simp only [State.txBytes, hl]
  exact List.map_congr_left fun i _ => txByte_congr h he i

/-- RXBUF[0..RXLEN) depends on RXLEN, the buffer and the epoch alone. -/
theorem rxBytes_congr {s t : State} (hl : t.regs.rxlen = s.regs.rxlen) (h : t.bufs.rx = s.bufs.rx)
    (he : t.env.epoch = s.env.epoch) : t.rxBytes = s.rxBytes := by
  simp only [State.rxBytes, hl]
  exact List.map_congr_left fun i _ => rxByte_congr h he i

@[simp] theorem length_txBytes : s.txBytes.length = s.regs.txlen.toNat := by simp [State.txBytes]
@[simp] theorem length_rxBytes : s.rxBytes.length = s.regs.rxlen.toNat := by simp [State.rxBytes]

/-- What a host write can do: one field of one register, one byte of one buffer, or nothing (20_memory.md R63). -/
theorem poke_cases {motive : State → Prop} {s : State} {a : HostAddr} {v : Word}
    (slave : a.toNat = 0x004 → motive { s with regs.slave := lo8 v })
    (arg0 : a.toNat = 0x005 → motive { s with regs.arg0 := v })
    (arg1 : a.toNat = 0x006 → motive { s with regs.arg1 := v })
    (timeout : a.toNat = 0x007 → motive { s with regs.timeout := v })
    (guard : a.toNat = 0x008 → motive { s with regs.guard := lo8 v })
    (gap : a.toNat = 0x009 → motive { s with regs.gap := clampGap v })
    (txlen : a.toNat = 0x00A → motive { s with regs.txlen := clampLen v })
    (rxlen : a.toNat = 0x00B → motive { s with regs.rxlen := clampLen v })
    (tx : ∀ i < 256, a.toNat = 0x100 + i → motive { s with bufs.tx := Memory.write s.bufs.tx i (lo8 v) })
    (rx : ∀ i < 256, a.toNat = 0x200 + i → motive { s with bufs.rx := Memory.write s.bufs.rx i (lo8 v) })
    (rest : a.toNat < 0x004 ∨ 0x00C ≤ a.toNat ∧ a.toNat < 0x100 ∨ 0x300 ≤ a.toNat → motive s) :
    motive (s.poke a v) := by
  unfold State.poke
  dsimp only
  refine iteInduction slave fun _ => iteInduction arg0 fun _ => iteInduction arg1 fun _ => ?_
  refine iteInduction timeout fun _ => iteInduction guard fun _ => iteInduction gap fun _ => ?_
  refine iteInduction txlen fun _ => iteInduction rxlen fun _ => ?_
  refine iteInduction (fun _ => rest (by omega)) fun _ => ?_
  refine iteInduction (fun _ => tx _ (by omega) (by omega)) fun _ => ?_
  exact iteInduction (fun _ => rx _ (by omega) (by omega)) fun _ => rest (by omega)

/-- TXBUF after `enc_frame`: the frame in its first 8 bytes, the rest as before (41_frame_codec.md R111). -/
theorem txByte_encFrame (f : Byte) (i : Nat) :
    (s.encFrame f).txByte i =
      if i < 8 then byteAt (shortFrame s.regs.slave f s.regs.arg0 s.regs.arg1) i else s.txByte i := by
  simp only [State.txByte, encFrame_bufs_tx, encFrame_env, Memory.read_writeAll, length_shortFrame]
  by_cases h : i < 8
  · simp [h, byteAt, List.getD_eq_getElem?_getD]
  · simp [h]

/-! ### The decoder (41_frame_codec.md R114 to R117)

It writes NREGS, RXHDR, BYTECNT, ECHO_ADDR, ECHO_VALUE and REGVAL, and nothing else. -/

theorem decode03_keeps (bs : List Byte) :
    (s.decode03 bs).2.bufs.tx = s.bufs.tx ∧
    (s.decode03 bs).2.bufs.rx = s.bufs.rx ∧
    (s.decode03 bs).2.arb = s.arb ∧
    (s.decode03 bs).2.env = s.env ∧
    (s.decode03 bs).2.regs.conn = s.regs.conn ∧
    (s.decode03 bs).2.regs.done = s.regs.done ∧
    (s.decode03 bs).2.regs.late = s.regs.late ∧
    (s.decode03 bs).2.regs.ovf = s.regs.ovf ∧
    (s.decode03 bs).2.regs.aborted = s.regs.aborted ∧
    (s.decode03 bs).2.regs.result = s.regs.result ∧
    (s.decode03 bs).2.regs.reject = s.regs.reject ∧
    (s.decode03 bs).2.regs.slave = s.regs.slave ∧
    (s.decode03 bs).2.regs.arg0 = s.regs.arg0 ∧
    (s.decode03 bs).2.regs.arg1 = s.regs.arg1 ∧
    (s.decode03 bs).2.regs.timeout = s.regs.timeout ∧
    (s.decode03 bs).2.regs.guard = s.regs.guard ∧
    (s.decode03 bs).2.regs.gap = s.regs.gap ∧
    (s.decode03 bs).2.regs.txlen = s.regs.txlen ∧
    (s.decode03 bs).2.regs.rxlen = s.regs.rxlen ∧
    (s.decode03 bs).2.regs.crc = s.regs.crc := by
  unfold State.decode03
  dsimp only
  split_ifs <;> simp

theorem decode06_keeps (bs : List Byte) :
    (s.decode06 bs).2.bufs.tx = s.bufs.tx ∧
    (s.decode06 bs).2.bufs.rx = s.bufs.rx ∧
    (s.decode06 bs).2.arb = s.arb ∧
    (s.decode06 bs).2.env = s.env ∧
    (s.decode06 bs).2.regs.conn = s.regs.conn ∧
    (s.decode06 bs).2.regs.done = s.regs.done ∧
    (s.decode06 bs).2.regs.late = s.regs.late ∧
    (s.decode06 bs).2.regs.ovf = s.regs.ovf ∧
    (s.decode06 bs).2.regs.aborted = s.regs.aborted ∧
    (s.decode06 bs).2.regs.result = s.regs.result ∧
    (s.decode06 bs).2.regs.reject = s.regs.reject ∧
    (s.decode06 bs).2.regs.slave = s.regs.slave ∧
    (s.decode06 bs).2.regs.arg0 = s.regs.arg0 ∧
    (s.decode06 bs).2.regs.arg1 = s.regs.arg1 ∧
    (s.decode06 bs).2.regs.timeout = s.regs.timeout ∧
    (s.decode06 bs).2.regs.guard = s.regs.guard ∧
    (s.decode06 bs).2.regs.gap = s.regs.gap ∧
    (s.decode06 bs).2.regs.txlen = s.regs.txlen ∧
    (s.decode06 bs).2.regs.rxlen = s.regs.rxlen ∧
    (s.decode06 bs).2.regs.crc = s.regs.crc := by
  unfold State.decode06
  dsimp only
  split_ifs <;> simp

@[simp] theorem decodeResponse_bufs_tx (bs : List Byte) : (s.decodeResponse bs).2.bufs.tx = s.bufs.tx := by
  unfold State.decodeResponse
  dsimp only
  split_ifs
  · rfl
  · rfl
  · simp [decode03_keeps]
  · simp [decode06_keeps]
  · rfl

@[simp] theorem decodeResponse_bufs_rx (bs : List Byte) : (s.decodeResponse bs).2.bufs.rx = s.bufs.rx := by
  unfold State.decodeResponse
  dsimp only
  split_ifs
  · rfl
  · rfl
  · simp [decode03_keeps]
  · simp [decode06_keeps]
  · rfl

@[simp] theorem decodeResponse_arb (bs : List Byte) : (s.decodeResponse bs).2.arb = s.arb := by
  unfold State.decodeResponse
  dsimp only
  split_ifs
  · rfl
  · rfl
  · simp [decode03_keeps]
  · simp [decode06_keeps]
  · rfl

@[simp] theorem decodeResponse_env (bs : List Byte) : (s.decodeResponse bs).2.env = s.env := by
  unfold State.decodeResponse
  dsimp only
  split_ifs
  · rfl
  · rfl
  · simp [decode03_keeps]
  · simp [decode06_keeps]
  · rfl

@[simp] theorem decodeResponse_regs_conn (bs : List Byte) : (s.decodeResponse bs).2.regs.conn = s.regs.conn := by
  unfold State.decodeResponse
  dsimp only
  split_ifs
  · rfl
  · rfl
  · simp [decode03_keeps]
  · simp [decode06_keeps]
  · rfl

@[simp] theorem decodeResponse_regs_done (bs : List Byte) : (s.decodeResponse bs).2.regs.done = s.regs.done := by
  unfold State.decodeResponse
  dsimp only
  split_ifs
  · rfl
  · rfl
  · simp [decode03_keeps]
  · simp [decode06_keeps]
  · rfl

@[simp] theorem decodeResponse_regs_late (bs : List Byte) : (s.decodeResponse bs).2.regs.late = s.regs.late := by
  unfold State.decodeResponse
  dsimp only
  split_ifs
  · rfl
  · rfl
  · simp [decode03_keeps]
  · simp [decode06_keeps]
  · rfl

@[simp] theorem decodeResponse_regs_ovf (bs : List Byte) : (s.decodeResponse bs).2.regs.ovf = s.regs.ovf := by
  unfold State.decodeResponse
  dsimp only
  split_ifs
  · rfl
  · rfl
  · simp [decode03_keeps]
  · simp [decode06_keeps]
  · rfl

@[simp] theorem decodeResponse_regs_aborted (bs : List Byte) : (s.decodeResponse bs).2.regs.aborted = s.regs.aborted := by
  unfold State.decodeResponse
  dsimp only
  split_ifs
  · rfl
  · rfl
  · simp [decode03_keeps]
  · simp [decode06_keeps]
  · rfl

@[simp] theorem decodeResponse_regs_result (bs : List Byte) : (s.decodeResponse bs).2.regs.result = s.regs.result := by
  unfold State.decodeResponse
  dsimp only
  split_ifs
  · rfl
  · rfl
  · simp [decode03_keeps]
  · simp [decode06_keeps]
  · rfl

@[simp] theorem decodeResponse_regs_reject (bs : List Byte) : (s.decodeResponse bs).2.regs.reject = s.regs.reject := by
  unfold State.decodeResponse
  dsimp only
  split_ifs
  · rfl
  · rfl
  · simp [decode03_keeps]
  · simp [decode06_keeps]
  · rfl

@[simp] theorem decodeResponse_regs_slave (bs : List Byte) : (s.decodeResponse bs).2.regs.slave = s.regs.slave := by
  unfold State.decodeResponse
  dsimp only
  split_ifs
  · rfl
  · rfl
  · simp [decode03_keeps]
  · simp [decode06_keeps]
  · rfl

@[simp] theorem decodeResponse_regs_arg0 (bs : List Byte) : (s.decodeResponse bs).2.regs.arg0 = s.regs.arg0 := by
  unfold State.decodeResponse
  dsimp only
  split_ifs
  · rfl
  · rfl
  · simp [decode03_keeps]
  · simp [decode06_keeps]
  · rfl

@[simp] theorem decodeResponse_regs_arg1 (bs : List Byte) : (s.decodeResponse bs).2.regs.arg1 = s.regs.arg1 := by
  unfold State.decodeResponse
  dsimp only
  split_ifs
  · rfl
  · rfl
  · simp [decode03_keeps]
  · simp [decode06_keeps]
  · rfl

@[simp] theorem decodeResponse_regs_timeout (bs : List Byte) : (s.decodeResponse bs).2.regs.timeout = s.regs.timeout := by
  unfold State.decodeResponse
  dsimp only
  split_ifs
  · rfl
  · rfl
  · simp [decode03_keeps]
  · simp [decode06_keeps]
  · rfl

@[simp] theorem decodeResponse_regs_guard (bs : List Byte) : (s.decodeResponse bs).2.regs.guard = s.regs.guard := by
  unfold State.decodeResponse
  dsimp only
  split_ifs
  · rfl
  · rfl
  · simp [decode03_keeps]
  · simp [decode06_keeps]
  · rfl

@[simp] theorem decodeResponse_regs_gap (bs : List Byte) : (s.decodeResponse bs).2.regs.gap = s.regs.gap := by
  unfold State.decodeResponse
  dsimp only
  split_ifs
  · rfl
  · rfl
  · simp [decode03_keeps]
  · simp [decode06_keeps]
  · rfl

@[simp] theorem decodeResponse_regs_txlen (bs : List Byte) : (s.decodeResponse bs).2.regs.txlen = s.regs.txlen := by
  unfold State.decodeResponse
  dsimp only
  split_ifs
  · rfl
  · rfl
  · simp [decode03_keeps]
  · simp [decode06_keeps]
  · rfl

@[simp] theorem decodeResponse_regs_rxlen (bs : List Byte) : (s.decodeResponse bs).2.regs.rxlen = s.regs.rxlen := by
  unfold State.decodeResponse
  dsimp only
  split_ifs
  · rfl
  · rfl
  · simp [decode03_keeps]
  · simp [decode06_keeps]
  · rfl

@[simp] theorem decodeResponse_regs_crc (bs : List Byte) : (s.decodeResponse bs).2.regs.crc = s.regs.crc := by
  unfold State.decodeResponse
  dsimp only
  split_ifs
  · rfl
  · rfl
  · simp [decode03_keeps]
  · simp [decode06_keeps]
  · rfl

/-- The decoder's code, check by check (R114 to R117). -/
theorem decodeResponse_code (bs : List Byte) :
    (s.decodeResponse bs).1 =
      if bs.length < 5 then .malformedFrame
      else if crcOk bs = false then .crcMismatch
      else if byteAt bs 1 = 0x03#8 then
        if bs.length = (byteAt bs 2).toNat + 5 ∧ (byteAt bs 2).getLsbD 0 = false then .ok else .malformedFrame
      else if byteAt bs 1 = 0x06#8 then if bs.length = 8 then .ok else .malformedFrame
      else .malformedFrame := by
  unfold State.decodeResponse State.decode03 State.decode06
  dsimp only
  by_cases h1 : bs.length < 5
  · simp only [h1, if_true]
  simp only [h1, if_false]
  cases h2 : crcOk bs
  · rfl
  simp only [Bool.not_true, Bool.true_eq_false, Bool.false_eq_true, if_false]
  split_ifs <;> first | rfl | simp_all

/-- NREGS after the decoder: the number of registers of an accepted 0x03 response, else 0 (R38, R114, R115). -/
theorem decodeResponse_nregs (bs : List Byte) :
    (s.decodeResponse bs).2.regs.nregs =
      if (s.decodeResponse bs).1 = .ok ∧ byteAt bs 1 = 0x03#8 then BitVec.ofNat 7 ((byteAt bs 2).toNat / 2)
      else 0#7 := by
  unfold State.decodeResponse State.decode03 State.decode06
  dsimp only
  split_ifs <;> simp_all

/-- RXHDR after the decoder: bytes 0 and 1 once length and CRC pass, else as before (R43, R114, R118). -/
theorem decodeResponse_rxhdr (bs : List Byte) :
    (s.decodeResponse bs).2.regs.rxhdr =
      if 5 ≤ bs.length ∧ crcOk bs = true then be16 (byteAt bs 0) (byteAt bs 1) else s.regs.rxhdr := by
  unfold State.decodeResponse State.decode03 State.decode06
  dsimp only
  by_cases h1 : bs.length < 5
  · rw [if_pos h1, if_neg (by omega)]
    rfl
  rw [if_neg h1]
  cases h2 : crcOk bs
  · simp
  have h3 : 5 ≤ bs.length := by omega
  simp only [h3, Bool.not_true, Bool.false_eq_true, if_false, and_self, if_true]
  split_ifs <;> rfl

/-- A frame the decoder accepts has 5 bytes or more and passes its CRC, and RXHDR.FUNC is its byte 1 (R114). -/
theorem decodeResponse_of_ok {bs : List Byte} (h : (s.decodeResponse bs).1 = .ok) :
    5 ≤ bs.length ∧ crcOk bs = true ∧ lo8 (s.decodeResponse bs).2.regs.rxhdr = byteAt bs 1 := by
  have hc := decodeResponse_code s bs
  rw [h] at hc
  have h5 : ¬bs.length < 5 := fun h5 => by simp [h5] at hc
  have hk : crcOk bs = true := by
    by_contra hk
    rw [if_neg h5, if_pos (by simpa using hk)] at hc
    cases hc
  exact ⟨by omega, hk, by rw [decodeResponse_rxhdr, if_pos ⟨by omega, hk⟩, lo8_be16]⟩

/-- BYTECNT and REGVAL after the decoder (R37, R115, R118). -/
theorem decodeResponse_registers (bs : List Byte) :
    ((s.decodeResponse bs).2.regs.bytecnt, (s.decodeResponse bs).2.bufs.regval) =
      if (s.decodeResponse bs).1 = .ok ∧ byteAt bs 1 = 0x03#8 then
        (byteAt bs 2, Memory.writeAll s.bufs.regval 0 ((List.range ((byteAt bs 2).toNat / 2)).map (responseWord bs)))
      else (s.regs.bytecnt, s.bufs.regval) := by
  unfold State.decodeResponse State.decode03 State.decode06
  dsimp only
  split_ifs <;> simp_all

/-- ECHO_ADDR and ECHO_VALUE after the decoder (R39, R116, R118). -/
theorem decodeResponse_echo (bs : List Byte) :
    ((s.decodeResponse bs).2.regs.echoAddr, (s.decodeResponse bs).2.regs.echoValue) =
      if (s.decodeResponse bs).1 = .ok ∧ byteAt bs 1 = 0x06#8 then
        (be16 (byteAt bs 2) (byteAt bs 3), be16 (byteAt bs 4) (byteAt bs 5))
      else (s.regs.echoAddr, s.regs.echoValue) := by
  unfold State.decodeResponse State.decode03 State.decode06
  dsimp only
  split_ifs <;> simp_all

end Sys2Proof.Machine
end

