-- ==== Sys2Proof/Laws/Arbiter.lean ====
section
/-! SUPPORT. What the arbiter's operations can do: starting a transaction, the completion checks, and each event of
the phase machine (42_transaction.md R134 to R155). -/

namespace Sys2Proof.Machine

variable (s : State)

/-! ### `start_xact` (R134) -/

/-- With GUARD = 0 the transaction is in phase TX at once. -/
theorem startXact_of_no_guard {s : State} (h : s.regs.guard = 0#8) (op : XOp) :
    s.startXact op =
      { s with arb.xop := op, arb.txptr := 0#9, regs.rxlen := 0#9, regs.nregs := 0#7, arb.phase := .tx } := by
  simp [State.startXact, h, State.enterTx]

/-- With GUARD > 0 the guard timer starts. -/
theorem startXact_of_guard {s : State} (h : s.regs.guard ≠ 0#8) (op : XOp) :
    s.startXact op =
      { s with
        arb.xop := op, arb.txptr := 0#9, regs.rxlen := 0#9, regs.nregs := 0#7, arb.gcnt := s.regs.guard,
        arb.phase := .guard } := by
  simp [State.startXact, h]

theorem startXact_phase (op : XOp) :
    (s.startXact op).arb.phase = if s.regs.guard = 0#8 then .tx else .guard := by
  unfold State.startXact
  dsimp only
  split_ifs <;> rfl

theorem startXact_gcnt (op : XOp) :
    (s.startXact op).arb.gcnt = if s.regs.guard = 0#8 then s.arb.gcnt else s.regs.guard := by
  unfold State.startXact
  dsimp only
  split_ifs <;> rfl

@[simp] theorem startXact_regs_conn (op : XOp) : (s.startXact op).regs.conn = s.regs.conn := by
  unfold State.startXact
  dsimp only
  split_ifs <;> rfl

@[simp] theorem startXact_regs_done (op : XOp) : (s.startXact op).regs.done = s.regs.done := by
  unfold State.startXact
  dsimp only
  split_ifs <;> rfl

@[simp] theorem startXact_regs_late (op : XOp) : (s.startXact op).regs.late = s.regs.late := by
  unfold State.startXact
  dsimp only
  split_ifs <;> rfl

@[simp] theorem startXact_regs_ovf (op : XOp) : (s.startXact op).regs.ovf = s.regs.ovf := by
  unfold State.startXact
  dsimp only
  split_ifs <;> rfl

@[simp] theorem startXact_regs_aborted (op : XOp) : (s.startXact op).regs.aborted = s.regs.aborted := by
  unfold State.startXact
  dsimp only
  split_ifs <;> rfl

@[simp] theorem startXact_regs_result (op : XOp) : (s.startXact op).regs.result = s.regs.result := by
  unfold State.startXact
  dsimp only
  split_ifs <;> rfl

@[simp] theorem startXact_regs_reject (op : XOp) : (s.startXact op).regs.reject = s.regs.reject := by
  unfold State.startXact
  dsimp only
  split_ifs <;> rfl

@[simp] theorem startXact_regs_slave (op : XOp) : (s.startXact op).regs.slave = s.regs.slave := by
  unfold State.startXact
  dsimp only
  split_ifs <;> rfl

@[simp] theorem startXact_regs_arg0 (op : XOp) : (s.startXact op).regs.arg0 = s.regs.arg0 := by
  unfold State.startXact
  dsimp only
  split_ifs <;> rfl

@[simp] theorem startXact_regs_arg1 (op : XOp) : (s.startXact op).regs.arg1 = s.regs.arg1 := by
  unfold State.startXact
  dsimp only
  split_ifs <;> rfl

@[simp] theorem startXact_regs_timeout (op : XOp) : (s.startXact op).regs.timeout = s.regs.timeout := by
  unfold State.startXact
  dsimp only
  split_ifs <;> rfl

@[simp] theorem startXact_regs_guard (op : XOp) : (s.startXact op).regs.guard = s.regs.guard := by
  unfold State.startXact
  dsimp only
  split_ifs <;> rfl

@[simp] theorem startXact_regs_gap (op : XOp) : (s.startXact op).regs.gap = s.regs.gap := by
  unfold State.startXact
  dsimp only
  split_ifs <;> rfl

@[simp] theorem startXact_regs_txlen (op : XOp) : (s.startXact op).regs.txlen = s.regs.txlen := by
  unfold State.startXact
  dsimp only
  split_ifs <;> rfl

@[simp] theorem startXact_regs_rxlen (op : XOp) : (s.startXact op).regs.rxlen = 0#9 := by
  unfold State.startXact
  dsimp only
  split_ifs <;> rfl

@[simp] theorem startXact_regs_crc (op : XOp) : (s.startXact op).regs.crc = s.regs.crc := by
  unfold State.startXact
  dsimp only
  split_ifs <;> rfl

@[simp] theorem startXact_regs_bytecnt (op : XOp) : (s.startXact op).regs.bytecnt = s.regs.bytecnt := by
  unfold State.startXact
  dsimp only
  split_ifs <;> rfl

@[simp] theorem startXact_regs_nregs (op : XOp) : (s.startXact op).regs.nregs = 0#7 := by
  unfold State.startXact
  dsimp only
  split_ifs <;> rfl

@[simp] theorem startXact_regs_echoAddr (op : XOp) : (s.startXact op).regs.echoAddr = s.regs.echoAddr := by
  unfold State.startXact
  dsimp only
  split_ifs <;> rfl

@[simp] theorem startXact_regs_echoValue (op : XOp) : (s.startXact op).regs.echoValue = s.regs.echoValue := by
  unfold State.startXact
  dsimp only
  split_ifs <;> rfl

@[simp] theorem startXact_regs_rxhdr (op : XOp) : (s.startXact op).regs.rxhdr = s.regs.rxhdr := by
  unfold State.startXact
  dsimp only
  split_ifs <;> rfl

@[simp] theorem startXact_arb_xop (op : XOp) : (s.startXact op).arb.xop = op := by
  unfold State.startXact
  dsimp only
  split_ifs <;> rfl

@[simp] theorem startXact_arb_txptr (op : XOp) : (s.startXact op).arb.txptr = 0#9 := by
  unfold State.startXact
  dsimp only
  split_ifs <;> rfl

@[simp] theorem startXact_arb_tocnt (op : XOp) : (s.startXact op).arb.tocnt = s.arb.tocnt := by
  unfold State.startXact
  dsimp only
  split_ifs <;> rfl

@[simp] theorem startXact_arb_gapcnt (op : XOp) : (s.startXact op).arb.gapcnt = s.arb.gapcnt := by
  unfold State.startXact
  dsimp only
  split_ifs <;> rfl

@[simp] theorem startXact_arb_port (op : XOp) : (s.startXact op).arb.port = s.arb.port := by
  unfold State.startXact
  dsimp only
  split_ifs <;> rfl

@[simp] theorem startXact_bufs (op : XOp) : (s.startXact op).bufs = s.bufs := by
  unfold State.startXact
  dsimp only
  split_ifs <;> rfl

@[simp] theorem startXact_env (op : XOp) : (s.startXact op).env = s.env := by
  unfold State.startXact
  dsimp only
  split_ifs <;> rfl

@[simp] theorem busy_startXact (op : XOp) : (s.startXact op).busy = true := by
  rw [busy_eq_true_iff, startXact_phase]
  split_ifs <;> simp

/-! ### The completion checks (R151, R152, R154)

They write what the decoder writes, and nothing else. -/

@[simp] theorem burstCheck_bufs_tx (bs : List Byte) : (s.burstCheck bs).2.bufs.tx = s.bufs.tx := by
  have h := decodeResponse_bufs_tx s bs
  unfold State.burstCheck State.checkRead State.checkWrite
  generalize s.decodeResponse bs = r at h ⊢
  obtain ⟨c, t⟩ := r
  cases s.arb.xop <;> cases c <;> dsimp only <;> (try split_ifs) <;> first | rfl | exact h

@[simp] theorem burstCheck_bufs_rx (bs : List Byte) : (s.burstCheck bs).2.bufs.rx = s.bufs.rx := by
  have h := decodeResponse_bufs_rx s bs
  unfold State.burstCheck State.checkRead State.checkWrite
  generalize s.decodeResponse bs = r at h ⊢
  obtain ⟨c, t⟩ := r
  cases s.arb.xop <;> cases c <;> dsimp only <;> (try split_ifs) <;> first | rfl | exact h

@[simp] theorem burstCheck_arb (bs : List Byte) : (s.burstCheck bs).2.arb = s.arb := by
  have h := decodeResponse_arb s bs
  unfold State.burstCheck State.checkRead State.checkWrite
  generalize s.decodeResponse bs = r at h ⊢
  obtain ⟨c, t⟩ := r
  cases s.arb.xop <;> cases c <;> dsimp only <;> (try split_ifs) <;> first | rfl | exact h

@[simp] theorem burstCheck_env (bs : List Byte) : (s.burstCheck bs).2.env = s.env := by
  have h := decodeResponse_env s bs
  unfold State.burstCheck State.checkRead State.checkWrite
  generalize s.decodeResponse bs = r at h ⊢
  obtain ⟨c, t⟩ := r
  cases s.arb.xop <;> cases c <;> dsimp only <;> (try split_ifs) <;> first | rfl | exact h

@[simp] theorem burstCheck_regs_conn (bs : List Byte) : (s.burstCheck bs).2.regs.conn = s.regs.conn := by
  have h := decodeResponse_regs_conn s bs
  unfold State.burstCheck State.checkRead State.checkWrite
  generalize s.decodeResponse bs = r at h ⊢
  obtain ⟨c, t⟩ := r
  cases s.arb.xop <;> cases c <;> dsimp only <;> (try split_ifs) <;> first | rfl | exact h

@[simp] theorem burstCheck_regs_done (bs : List Byte) : (s.burstCheck bs).2.regs.done = s.regs.done := by
  have h := decodeResponse_regs_done s bs
  unfold State.burstCheck State.checkRead State.checkWrite
  generalize s.decodeResponse bs = r at h ⊢
  obtain ⟨c, t⟩ := r
  cases s.arb.xop <;> cases c <;> dsimp only <;> (try split_ifs) <;> first | rfl | exact h

@[simp] theorem burstCheck_regs_late (bs : List Byte) : (s.burstCheck bs).2.regs.late = s.regs.late := by
  have h := decodeResponse_regs_late s bs
  unfold State.burstCheck State.checkRead State.checkWrite
  generalize s.decodeResponse bs = r at h ⊢
  obtain ⟨c, t⟩ := r
  cases s.arb.xop <;> cases c <;> dsimp only <;> (try split_ifs) <;> first | rfl | exact h

@[simp] theorem burstCheck_regs_ovf (bs : List Byte) : (s.burstCheck bs).2.regs.ovf = s.regs.ovf := by
  have h := decodeResponse_regs_ovf s bs
  unfold State.burstCheck State.checkRead State.checkWrite
  generalize s.decodeResponse bs = r at h ⊢
  obtain ⟨c, t⟩ := r
  cases s.arb.xop <;> cases c <;> dsimp only <;> (try split_ifs) <;> first | rfl | exact h

@[simp] theorem burstCheck_regs_aborted (bs : List Byte) : (s.burstCheck bs).2.regs.aborted = s.regs.aborted := by
  have h := decodeResponse_regs_aborted s bs
  unfold State.burstCheck State.checkRead State.checkWrite
  generalize s.decodeResponse bs = r at h ⊢
  obtain ⟨c, t⟩ := r
  cases s.arb.xop <;> cases c <;> dsimp only <;> (try split_ifs) <;> first | rfl | exact h

@[simp] theorem burstCheck_regs_result (bs : List Byte) : (s.burstCheck bs).2.regs.result = s.regs.result := by
  have h := decodeResponse_regs_result s bs
  unfold State.burstCheck State.checkRead State.checkWrite
  generalize s.decodeResponse bs = r at h ⊢
  obtain ⟨c, t⟩ := r
  cases s.arb.xop <;> cases c <;> dsimp only <;> (try split_ifs) <;> first | rfl | exact h

@[simp] theorem burstCheck_regs_reject (bs : List Byte) : (s.burstCheck bs).2.regs.reject = s.regs.reject := by
  have h := decodeResponse_regs_reject s bs
  unfold State.burstCheck State.checkRead State.checkWrite
  generalize s.decodeResponse bs = r at h ⊢
  obtain ⟨c, t⟩ := r
  cases s.arb.xop <;> cases c <;> dsimp only <;> (try split_ifs) <;> first | rfl | exact h

@[simp] theorem burstCheck_regs_slave (bs : List Byte) : (s.burstCheck bs).2.regs.slave = s.regs.slave := by
  have h := decodeResponse_regs_slave s bs
  unfold State.burstCheck State.checkRead State.checkWrite
  generalize s.decodeResponse bs = r at h ⊢
  obtain ⟨c, t⟩ := r
  cases s.arb.xop <;> cases c <;> dsimp only <;> (try split_ifs) <;> first | rfl | exact h

@[simp] theorem burstCheck_regs_arg0 (bs : List Byte) : (s.burstCheck bs).2.regs.arg0 = s.regs.arg0 := by
  have h := decodeResponse_regs_arg0 s bs
  unfold State.burstCheck State.checkRead State.checkWrite
  generalize s.decodeResponse bs = r at h ⊢
  obtain ⟨c, t⟩ := r
  cases s.arb.xop <;> cases c <;> dsimp only <;> (try split_ifs) <;> first | rfl | exact h

@[simp] theorem burstCheck_regs_arg1 (bs : List Byte) : (s.burstCheck bs).2.regs.arg1 = s.regs.arg1 := by
  have h := decodeResponse_regs_arg1 s bs
  unfold State.burstCheck State.checkRead State.checkWrite
  generalize s.decodeResponse bs = r at h ⊢
  obtain ⟨c, t⟩ := r
  cases s.arb.xop <;> cases c <;> dsimp only <;> (try split_ifs) <;> first | rfl | exact h

@[simp] theorem burstCheck_regs_timeout (bs : List Byte) : (s.burstCheck bs).2.regs.timeout = s.regs.timeout := by
  have h := decodeResponse_regs_timeout s bs
  unfold State.burstCheck State.checkRead State.checkWrite
  generalize s.decodeResponse bs = r at h ⊢
  obtain ⟨c, t⟩ := r
  cases s.arb.xop <;> cases c <;> dsimp only <;> (try split_ifs) <;> first | rfl | exact h

@[simp] theorem burstCheck_regs_guard (bs : List Byte) : (s.burstCheck bs).2.regs.guard = s.regs.guard := by
  have h := decodeResponse_regs_guard s bs
  unfold State.burstCheck State.checkRead State.checkWrite
  generalize s.decodeResponse bs = r at h ⊢
  obtain ⟨c, t⟩ := r
  cases s.arb.xop <;> cases c <;> dsimp only <;> (try split_ifs) <;> first | rfl | exact h

@[simp] theorem burstCheck_regs_gap (bs : List Byte) : (s.burstCheck bs).2.regs.gap = s.regs.gap := by
  have h := decodeResponse_regs_gap s bs
  unfold State.burstCheck State.checkRead State.checkWrite
  generalize s.decodeResponse bs = r at h ⊢
  obtain ⟨c, t⟩ := r
  cases s.arb.xop <;> cases c <;> dsimp only <;> (try split_ifs) <;> first | rfl | exact h

@[simp] theorem burstCheck_regs_txlen (bs : List Byte) : (s.burstCheck bs).2.regs.txlen = s.regs.txlen := by
  have h := decodeResponse_regs_txlen s bs
  unfold State.burstCheck State.checkRead State.checkWrite
  generalize s.decodeResponse bs = r at h ⊢
  obtain ⟨c, t⟩ := r
  cases s.arb.xop <;> cases c <;> dsimp only <;> (try split_ifs) <;> first | rfl | exact h

@[simp] theorem burstCheck_regs_rxlen (bs : List Byte) : (s.burstCheck bs).2.regs.rxlen = s.regs.rxlen := by
  have h := decodeResponse_regs_rxlen s bs
  unfold State.burstCheck State.checkRead State.checkWrite
  generalize s.decodeResponse bs = r at h ⊢
  obtain ⟨c, t⟩ := r
  cases s.arb.xop <;> cases c <;> dsimp only <;> (try split_ifs) <;> first | rfl | exact h

@[simp] theorem burstCheck_regs_crc (bs : List Byte) : (s.burstCheck bs).2.regs.crc = s.regs.crc := by
  have h := decodeResponse_regs_crc s bs
  unfold State.burstCheck State.checkRead State.checkWrite
  generalize s.decodeResponse bs = r at h ⊢
  obtain ⟨c, t⟩ := r
  cases s.arb.xop <;> cases c <;> dsimp only <;> (try split_ifs) <;> first | rfl | exact h

/-- The check of a READ (R151): OK exactly when the decoder accepts a 0x03 response of ARG1 registers. -/
theorem checkRead_code (bs : List Byte) :
    (s.checkRead bs).1 =
      if (s.decodeResponse bs).1 = .ok then
        if lo8 (s.decodeResponse bs).2.regs.rxhdr = 0x03#8 ∧
          (s.decodeResponse bs).2.regs.nregs.setWidth 16 = s.regs.arg1 then .ok else .malformedFrame
      else (s.decodeResponse bs).1 := by
  have h := decodeResponse_regs_arg1 s bs
  unfold State.checkRead
  generalize s.decodeResponse bs = r at h ⊢
  obtain ⟨c, t⟩ := r
  simp only at h
  cases c <;> simp only [reduceCtorEq, if_false, if_true, ← h]
  split_ifs <;> simp_all

/-- The check of a WRITE (R152): OK exactly when the decoder accepts a 0x06 response that echoes ARG0 and ARG1. -/
theorem checkWrite_code (bs : List Byte) :
    (s.checkWrite bs).1 =
      if (s.decodeResponse bs).1 = .ok then
        if lo8 (s.decodeResponse bs).2.regs.rxhdr = 0x06#8 then
          if (s.decodeResponse bs).2.regs.echoAddr = s.regs.arg0 ∧
            (s.decodeResponse bs).2.regs.echoValue = s.regs.arg1 then .ok else .writeVerificationFailed
        else .malformedFrame
      else (s.decodeResponse bs).1 := by
  have h := decodeResponse_regs_arg0 s bs
  have h' := decodeResponse_regs_arg1 s bs
  unfold State.checkWrite
  generalize s.decodeResponse bs = r at h h' ⊢
  obtain ⟨c, t⟩ := r
  simp only at h h'
  cases c <;> simp only [reduceCtorEq, if_false, if_true, ← h, ← h']
  split_ifs <;> simp_all

/-- NREGS after the check of a READ (R151): the number of registers of an accepted reply, and 0 for every refused
one. -/
theorem checkRead_nregs (bs : List Byte) :
    (s.checkRead bs).2.regs.nregs =
      if (s.checkRead bs).1 = .ok then BitVec.ofNat 7 ((byteAt bs 2).toNat / 2) else 0#7 := by
  have hn := decodeResponse_nregs s bs
  have hf := decodeResponse_of_ok s (bs := bs)
  unfold State.checkRead
  generalize s.decodeResponse bs = r at hn hf ⊢
  obtain ⟨c, t⟩ := r
  cases c
  case ok =>
    have hfunc : lo8 t.regs.rxhdr = byteAt bs 1 := (hf rfl).2.2
    simp only [true_and] at hn
    simp only [hfunc]
    split_ifs <;> simp_all
  all_goals simpa using hn

/-- NREGS after the check of a WRITE is 0, whatever the burst (R114, R116, R152). -/
theorem checkWrite_nregs (bs : List Byte) : (s.checkWrite bs).2.regs.nregs = 0#7 := by
  have hn := decodeResponse_nregs s bs
  have hf := decodeResponse_of_ok s (bs := bs)
  unfold State.checkWrite
  generalize s.decodeResponse bs = r at hn hf ⊢
  obtain ⟨c, t⟩ := r
  cases c
  case ok =>
    have hfunc : lo8 t.regs.rxhdr = byteAt bs 1 := (hf rfl).2.2
    simp only [true_and] at hn
    simp only [hfunc]
    split_ifs <;> simp_all
  all_goals simpa using hn

/-- A READ's check leaves NREGS as the decoder left it, or 0. -/
theorem burstCheck_nregs (bs : List Byte) :
    (s.burstCheck bs).2.regs.nregs = s.regs.nregs ∨ (s.burstCheck bs).2.regs.nregs = 0#7 ∨
      (s.burstCheck bs).2.regs.nregs = (s.decodeResponse bs).2.regs.nregs := by
  unfold State.burstCheck State.checkRead State.checkWrite
  rcases s.decodeResponse bs with ⟨c, t⟩
  cases s.arb.xop <;> cases c <;> dsimp only <;> (try split_ifs) <;> simp

/-- REGVAL after the check of a burst: as before, or as the decoder left it. -/
theorem burstCheck_regval (bs : List Byte) :
    (s.burstCheck bs).2.bufs.regval = s.bufs.regval ∨
      (s.burstCheck bs).2.bufs.regval = (s.decodeResponse bs).2.bufs.regval := by
  unfold State.burstCheck State.checkRead State.checkWrite
  rcases s.decodeResponse bs with ⟨c, t⟩
  cases s.arb.xop <;> cases c <;> dsimp only <;> (try split_ifs) <;> simp

/-- `complete_xact` is `end_xact` of a code in a state the check may have changed (R138). -/
theorem completeXact_eq :
    s.completeXact =
      if s.regs.ovf = true then s.endXact .malformedFrame
      else (s.burstCheck s.rxBytes).2.endXact (s.burstCheck s.rxBytes).1 := by
  unfold State.completeXact
  split_ifs <;> rfl

/-! ### `rx_store` and the bytes of a burst (R147) -/

/-- Room in RXBUF: the byte is stored at RXLEN. -/
theorem rxStore_of_room {s : State} (h : s.regs.rxlen.toNat < 256) (b : Byte) :
    s.rxStore b = { s with
      bufs.rx := Memory.write s.bufs.rx s.regs.rxlen.toNat b, regs.rxlen := s.regs.rxlen + 1#9 } := by
  simp [State.rxStore, Config.rxbufSize, h]

/-- No room: the byte is dropped and OVF is set. -/
theorem rxStore_of_full {s : State} (h : 256 ≤ s.regs.rxlen.toNat) (b : Byte) :
    s.rxStore b = { s with regs.ovf := true } := by
  have : ¬s.regs.rxlen.toNat < 256 := by omega
  simp [State.rxStore, Config.rxbufSize, this]

@[simp] theorem rxStore_bufs_tx (b : Byte) : (s.rxStore b).bufs.tx = s.bufs.tx := by
  unfold State.rxStore
  split_ifs <;> rfl

@[simp] theorem rxStore_bufs_regval (b : Byte) : (s.rxStore b).bufs.regval = s.bufs.regval := by
  unfold State.rxStore
  split_ifs <;> rfl

@[simp] theorem rxStore_arb (b : Byte) : (s.rxStore b).arb = s.arb := by
  unfold State.rxStore
  split_ifs <;> rfl

@[simp] theorem rxStore_env (b : Byte) : (s.rxStore b).env = s.env := by
  unfold State.rxStore
  split_ifs <;> rfl

@[simp] theorem rxStore_regs_conn (b : Byte) : (s.rxStore b).regs.conn = s.regs.conn := by
  unfold State.rxStore
  split_ifs <;> rfl

@[simp] theorem rxStore_regs_done (b : Byte) : (s.rxStore b).regs.done = s.regs.done := by
  unfold State.rxStore
  split_ifs <;> rfl

@[simp] theorem rxStore_regs_late (b : Byte) : (s.rxStore b).regs.late = s.regs.late := by
  unfold State.rxStore
  split_ifs <;> rfl

@[simp] theorem rxStore_regs_aborted (b : Byte) : (s.rxStore b).regs.aborted = s.regs.aborted := by
  unfold State.rxStore
  split_ifs <;> rfl

@[simp] theorem rxStore_regs_result (b : Byte) : (s.rxStore b).regs.result = s.regs.result := by
  unfold State.rxStore
  split_ifs <;> rfl

@[simp] theorem rxStore_regs_reject (b : Byte) : (s.rxStore b).regs.reject = s.regs.reject := by
  unfold State.rxStore
  split_ifs <;> rfl

@[simp] theorem rxStore_regs_slave (b : Byte) : (s.rxStore b).regs.slave = s.regs.slave := by
  unfold State.rxStore
  split_ifs <;> rfl

@[simp] theorem rxStore_regs_arg0 (b : Byte) : (s.rxStore b).regs.arg0 = s.regs.arg0 := by
  unfold State.rxStore
  split_ifs <;> rfl

@[simp] theorem rxStore_regs_arg1 (b : Byte) : (s.rxStore b).regs.arg1 = s.regs.arg1 := by
  unfold State.rxStore
  split_ifs <;> rfl

@[simp] theorem rxStore_regs_timeout (b : Byte) : (s.rxStore b).regs.timeout = s.regs.timeout := by
  unfold State.rxStore
  split_ifs <;> rfl

@[simp] theorem rxStore_regs_guard (b : Byte) : (s.rxStore b).regs.guard = s.regs.guard := by
  unfold State.rxStore
  split_ifs <;> rfl

@[simp] theorem rxStore_regs_gap (b : Byte) : (s.rxStore b).regs.gap = s.regs.gap := by
  unfold State.rxStore
  split_ifs <;> rfl

@[simp] theorem rxStore_regs_txlen (b : Byte) : (s.rxStore b).regs.txlen = s.regs.txlen := by
  unfold State.rxStore
  split_ifs <;> rfl

@[simp] theorem rxStore_regs_crc (b : Byte) : (s.rxStore b).regs.crc = s.regs.crc := by
  unfold State.rxStore
  split_ifs <;> rfl

@[simp] theorem rxStore_regs_bytecnt (b : Byte) : (s.rxStore b).regs.bytecnt = s.regs.bytecnt := by
  unfold State.rxStore
  split_ifs <;> rfl

@[simp] theorem rxStore_regs_nregs (b : Byte) : (s.rxStore b).regs.nregs = s.regs.nregs := by
  unfold State.rxStore
  split_ifs <;> rfl

@[simp] theorem rxStore_regs_echoAddr (b : Byte) : (s.rxStore b).regs.echoAddr = s.regs.echoAddr := by
  unfold State.rxStore
  split_ifs <;> rfl

@[simp] theorem rxStore_regs_echoValue (b : Byte) : (s.rxStore b).regs.echoValue = s.regs.echoValue := by
  unfold State.rxStore
  split_ifs <;> rfl

@[simp] theorem rxStore_regs_rxhdr (b : Byte) : (s.rxStore b).regs.rxhdr = s.regs.rxhdr := by
  unfold State.rxStore
  split_ifs <;> rfl

/-- RXLEN after a store: one more, or 256 already reached. -/
theorem rxStore_rxlen (b : Byte) :
    (s.rxStore b).regs.rxlen.toNat = if s.regs.rxlen.toNat < 256 then s.regs.rxlen.toNat + 1 else s.regs.rxlen.toNat := by
  by_cases h : s.regs.rxlen.toNat < 256
  · rw [rxStore_of_room h, if_pos h]
    show (s.regs.rxlen + 1#9).toNat = _
    rw [BitVec.toNat_add]
    simp
    omega
  · rw [rxStore_of_full (by omega), if_neg h]

/-- The burst after a store into RXBUF with room: the byte is appended (R74, R147). -/
theorem rxBytes_rxStore {s : State} (h : s.regs.rxlen.toNat < 256) (b : Byte) :
    (s.rxStore b).rxBytes = s.rxBytes ++ [b] := by
  have e : (s.rxStore b).regs.rxlen.toNat = s.regs.rxlen.toNat + 1 := by rw [rxStore_rxlen, if_pos h]
  have r : ∀ i, (s.rxStore b).rxByte i = if i = s.regs.rxlen.toNat then b else s.rxByte i := by
    intro i
    rw [rxStore_of_room h]
    simp only [State.rxByte, Memory.read_write]
    split_ifs <;> rfl
  unfold State.rxBytes
  rw [e, List.range_succ, List.map_append]
  congr 1
  · apply List.map_congr_left
    intro i hi
    rw [r, if_neg (by have := List.mem_range.1 hi; omega)]
  · simp [r]

/-! ### What no event but a reset changes (R44, R64) -/

theorem requestAsIn_refl : s.requestAsIn s := ⟨rfl, rfl, rfl, rfl, rfl, rfl, rfl, rfl, rfl⟩

theorem requestAsIn_trans {s t u : State} (h : t.requestAsIn s) (h' : u.requestAsIn t) : u.requestAsIn s :=
  ⟨h'.slave.trans h.slave, h'.arg0.trans h.arg0, h'.arg1.trans h.arg1, h'.timeout.trans h.timeout,
    h'.guard.trans h.guard, h'.gap.trans h.gap, h'.txlen.trans h.txlen, h'.tx.trans h.tx, h'.epoch.trans h.epoch⟩

theorem completeXact_requestAsIn : s.completeXact.requestAsIn s := by
  rw [completeXact_eq]
  split_ifs <;> constructor <;> simp

theorem onTick_requestAsIn : s.onTick.requestAsIn s := by
  unfold State.onTick State.tickGuard State.tickWait State.tickAccum
  cases s.arb.phase <;> dsimp only
  · exact requestAsIn_refl s
  · split_ifs <;> constructor <;> simp
  · exact requestAsIn_refl s
  · split_ifs <;> constructor <;> simp
  · split_ifs
    · exact requestAsIn_trans (t := { s with arb.gapcnt := s.arb.gapcnt - 1#8 })
        ⟨rfl, rfl, rfl, rfl, rfl, rfl, rfl, rfl, rfl⟩ (completeXact_requestAsIn _)
    · constructor <;> simp

theorem onRxByte_requestAsIn (b : Byte) : (s.onRxByte b).requestAsIn s := by
  unfold State.onRxByte
  cases s.arb.phase <;> constructor <;> simp

theorem onRxFrame_requestAsIn (bs : List Byte) : (s.onRxFrame bs).requestAsIn s := by
  induction bs generalizing s with
  | nil => exact requestAsIn_refl s
  | cons b bs ih => exact requestAsIn_trans (onRxByte_requestAsIn s b) (ih (s.onRxByte b))

theorem onTxTake_requestAsIn : s.onTxTake.requestAsIn s := by
  unfold State.onTxTake State.takeTx State.enterWait
  cases s.arb.phase <;> dsimp only
  · exact requestAsIn_refl s
  · exact requestAsIn_refl s
  · split_ifs <;> constructor <;> simp
  · exact requestAsIn_refl s
  · exact requestAsIn_refl s

theorem takeMany_requestAsIn (n : Nat) : (State.takeMany n s).requestAsIn s := by
  induction n generalizing s with
  | zero => exact requestAsIn_refl s
  | succ n ih => exact requestAsIn_trans (onTxTake_requestAsIn s) (ih s.onTxTake)

theorem onTakeFrame_requestAsIn (bs : List Byte) : (s.onTakeFrame bs).requestAsIn s := by
  unfold State.onTakeFrame
  split_ifs
  · exact takeMany_requestAsIn s bs.length
  · exact requestAsIn_refl s

theorem onTxError_requestAsIn : s.onTxError.requestAsIn s := by
  unfold State.onTxError
  cases s.arb.phase <;> constructor <;> simp

theorem onLinkLost_requestAsIn : s.onLinkLost.requestAsIn s := by
  unfold State.onLinkLost
  dsimp only
  split_ifs <;> constructor <;> simp

end Sys2Proof.Machine
end

