-- ==== Sys2Proof/Laws/PerInstr.lean ====
section
/-! SUPPORT. Statements about every instruction as syntax, one lemma per constructor. -/

namespace Sys2Proof.Laws.EncodedForm

/-- The form of an encoding: a command word is one of the eleven of R81 or an illegal one (R82), a request is 8 bytes
(R84, R86), a response has 5 to 256 bytes (R90). -/
def Statement (i : Instr) : Prop :=
  i.wf = true →
    match encode i with
    | .command w => w.toNat < 0xB ∨ Machine.isIllegal w = true
    | .request bs => bs.length = 8
    | .response bs => 5 ≤ bs.length ∧ bs.length ≤ 256

theorem nop : Statement .nop := fun _ => .inl (by decide)
theorem crc : Statement .crc := fun _ => .inl (by decide)
theorem encrd : Statement .encrd := fun _ => .inl (by decide)
theorem encwr : Statement .encwr := fun _ => .inl (by decide)
theorem decode : Statement .decode := fun _ => .inl (by decide)
theorem openPort : Statement .openPort := fun _ => .inl (by decide)
theorem closePort : Statement .closePort := fun _ => .inl (by decide)
theorem read : Statement .read := fun _ => .inl (by decide)
theorem write : Statement .write := fun _ => .inl (by decide)
theorem raw : Statement .raw := fun _ => .inl (by decide)
theorem abort : Statement .abort := fun _ => .inl (by decide)
theorem illegal (w : Word) : Statement (.illegal w) := fun h => .inr h
theorem rdreq (slave : Byte) (start count : Word) : Statement (.rdreq slave start count) := fun _ =>
  Machine.length_shortFrame slave 0x03#8 start count
theorem wrreq (slave : Byte) (addr value : Word) : Statement (.wrreq slave addr value) := fun _ =>
  Machine.length_shortFrame slave 0x06#8 addr value
theorem wrrsp (slave : Byte) (addr value : Word) : Statement (.wrrsp slave addr value) := fun _ => by
  simp [encode]
theorem rdrsp (slave : Byte) (regs : List Word) : Statement (.rdrsp slave regs) := fun h => by
  have h' : regs.length ≤ 125 := (Machine.wf_rdrsp_iff slave regs).1 h
  simp only [encode, Machine.length_readResponse]
  omega

end Sys2Proof.Laws.EncodedForm
end

