-- ==== Sys2Proof/Machine/Script.lean ====
section
/-! DEFINITION. Host scripts, the programs of the core: the statements of 30_encoding.md R92 and the
pseudo-instructions of R93, as the events they stand for. -/

namespace Sys2Proof.Machine

/-- The statements of R92. `rd A = V` is `rd A` with a check of the data read, which is the host's. -/
inductive Stmt where
  | wr (addr : HostAddr) (v : Word)
  | rd (addr : HostAddr)
  | tick (n : Nat)
  | rx (bs : List Byte)
  | take (n : Nat)
  | txerr
  | lost
  | rst
  | port (ok : Bool)
  deriving DecidableEq, Repr

/-- The events of a statement, in order (R92). -/
def Stmt.events : Stmt → List Event
  | .wr a v => [.hostWrite a v]
  | .rd a => [.hostRead a]
  | .tick n => List.replicate n .tick
  | .rx bs => bs.map .rxByte
  | .take n => List.replicate n .txTake
  | .txerr => [.txError]
  | .lost => [.linkLost]
  | .rst => [.rst]
  | .port ok => [.portAnswer ok]

/-- The pseudo-instructions of R93. -/
inductive Pseudo where
  | nop
  | crc
  | encrd (start count : Word)
  | encwr (addr value : Word)
  | decode
  | openPort (port : Word)
  | closePort
  | read (start count : Word)
  | write (addr value : Word)
  | raw (bs : List Byte)
  | abort
  | rxframe (bs : List Byte)
  deriving DecidableEq, Repr

/-- Writes of a byte sequence to consecutive host addresses. -/
def writeBytes (base : Nat) : List Byte → List Stmt
  | [] => []
  | b :: bs => .wr (BitVec.ofNat 10 base) (b.setWidth 16) :: writeBytes (base + 1) bs

/-- `wr ARG0, x ; wr ARG1, y ; wr CMD, w`. -/
def withArgs (x y w : Word) : List Stmt := [.wr 0x005#10 x, .wr 0x006#10 y, .wr 0x000#10 w]

/-- The expansions of R93. -/
def Pseudo.expand : Pseudo → List Stmt
  | .nop => [.wr 0x000#10 0x0000#16]
  | .crc => [.wr 0x000#10 0x0001#16]
  | .encrd s c => withArgs s c 0x0002#16
  | .encwr a v => withArgs a v 0x0003#16
  | .decode => [.wr 0x000#10 0x0004#16]
  | .openPort p => [.wr 0x005#10 p, .wr 0x000#10 0x0005#16]
  | .closePort => [.wr 0x000#10 0x0006#16]
  | .read s c => withArgs s c 0x0007#16
  | .write a v => withArgs a v 0x0008#16
  | .raw bs => writeBytes 0x100 bs ++ [.wr 0x00A#10 (BitVec.ofNat 16 bs.length), .wr 0x000#10 0x0009#16]
  | .abort => [.wr 0x000#10 0x000A#16]
  | .rxframe bs => writeBytes 0x200 bs ++ [.wr 0x00B#10 (BitVec.ofNat 16 bs.length)]

/-- A script as clocks, one event in each. -/
def scriptClocks (p : List Stmt) : List (List Event) := (p.flatMap Stmt.events).map (fun e => [e])

/-- The state with a script to run next. -/
def State.load (s : State) (p : List Stmt) : State := { s with env.clocks := scriptClocks p ++ s.env.clocks }

end Sys2Proof.Machine
end

