-- ==== Sys2Proof/Laws/Step.lean ====
section
/-! SUPPORT. What a step can do: where its action comes from, and the three shapes of its outcome. -/

namespace Sys2Proof.Machine

/-- A fetch takes one event from the clocks and changes nothing else. -/
theorem fetch_cases {s t : State} {a : Action} (h : s.fetch = some (a, t)) :
    ∃ e cs, nextEvent s.env.clocks = some (e, cs) ∧ t = { s with env.clocks := cs } ∧
      (e.instr = none ∧ a = .react e ∨ ∃ i, e.instr = some i ∧ a = .run i) := by
  unfold State.fetch at h
  cases hn : nextEvent s.env.clocks with
  | none => simp [hn] at h
  | some p =>
    obtain ⟨e, cs⟩ := p
    refine ⟨e, cs, rfl, ?_⟩
    cases hi : e.instr <;> simp [hn, hi] at h <;> simp [← h.1, ← h.2]

/-- A step that goes on: no event, an instruction, or an event that carries none. -/
theorem step_cases {s t : State} (h : step s = .next t) :
    (nextEvent s.env.clocks = none ∧ t = s) ∨
    ∃ e cs, nextEvent s.env.clocks = some (e, cs) ∧
      (e.instr = none ∧ t = State.react { s with env.clocks := cs } e ∨
        ∃ i, e.instr = some i ∧ exec i { s with env.clocks := cs } = .next t) := by
  unfold step at h
  cases hf : s.fetch with
  | none =>
    refine .inl ⟨?_, by simpa [hf] using h.symm⟩
    unfold State.fetch at hf
    cases hn : nextEvent s.env.clocks with
    | none => rfl
    | some p =>
      obtain ⟨e, cs⟩ := p
      cases hi : e.instr <;> simp [hn, hi] at hf
  | some p =>
    obtain ⟨a, u⟩ := p
    obtain ⟨e, cs, hn, hu, ha⟩ := fetch_cases hf
    refine .inr ⟨e, cs, hn, ?_⟩
    rcases ha with ⟨hi, rfl⟩ | ⟨i, hi, rfl⟩
    · exact .inl ⟨hi, by simpa [hf, hu] using h.symm⟩
    · exact .inr ⟨i, hi, by simpa [hf, hu] using h⟩

/-- A step with nothing presented. -/
theorem step_of_no_event {s : State} (h : nextEvent s.env.clocks = none) : step s = .next s := by
  simp [step, State.fetch, h]

/-- A step whose event carries an instruction. -/
theorem step_of_instr {s : State} {e : Event} {cs : List (List Event)} {i : Instr}
    (h : nextEvent s.env.clocks = some (e, cs)) (hi : e.instr = some i) :
    step s = exec i { s with env.clocks := cs } := by simp [step, State.fetch, h, hi]

/-- A step whose event carries none. -/
theorem step_of_event {s : State} {e : Event} {cs : List (List Event)}
    (h : nextEvent s.env.clocks = some (e, cs)) (hi : e.instr = none) :
    step s = .next (State.react { s with env.clocks := cs } e) := by simp [step, State.fetch, h, hi]

/-- A clock of one event presents it. -/
@[simp] theorem nextEvent_single (e : Event) (cs : List (List Event)) : nextEvent ([e] :: cs) = some (e, [] :: cs) := rfl

/-- A clock that is used up is passed over. -/
@[simp] theorem nextEvent_nil (cs : List (List Event)) : nextEvent ([] :: cs) = nextEvent cs := rfl

/-- A packet presented is what the next event carries. -/
@[simp] theorem packet_packetEvent (p : Packet) : (packetEvent p).packet = some p := by
  cases p <;> rfl

end Sys2Proof.Machine
end

