-- ==== Sys2Proof/Tests/Slice0.lean ====
section
/-! SUPPORT. The model's own tests: ill-formed terms, words and frames written out from the spec, one step of each
instruction with the results of 95_test_vectors.md, and a witness for the hypotheses of each statement. -/

namespace Sys2Proof.Tests

open Sys2Proof Sys2Proof.Machine

-- The evaluations below are checked one after another, not all at once.
set_option Elab.async false

/-! ## Small states -/

/-- The reset state with a connection (as after V-CONN's OPEN of port 7). -/
def connected : State := { State.reset with regs.conn := true, arb.port := 7#16 }

/-- A state with the frame bs in RXBUF, as `rxframe` leaves it (R93). -/
def withRx (s : State) (bs : List Byte) : State :=
  { s with bufs.rx := Memory.writeAll [] 0 bs, regs.rxlen := BitVec.ofNat 9 bs.length }

/-- A state with the bytes bs in TXBUF. -/
def withTx (s : State) (bs : List Byte) : State :=
  { s with bufs.tx := Memory.writeAll [] 0 bs, regs.txlen := BitVec.ofNat 9 bs.length }

/-- What `withRx` leaves in RXBUF. -/
theorem rxBytes_withRx (s : State) (bs : List Byte) (h : bs.length ≤ 256) : (withRx s bs).rxBytes = bs := by
  have e : (BitVec.ofNat 9 bs.length).toNat = bs.length := by simp; omega
  have key : ∀ i, (withRx s bs).rxByte i =
      ((Memory.read (Memory.writeAll [] 0 bs) i).getD (Config.unwrittenByte s.env.epoch (0x200 + i))) := fun _ => rfl
  have hl : (withRx s bs).regs.rxlen = BitVec.ofNat 9 bs.length := rfl
  simp only [State.rxBytes, hl, e]
  apply List.ext_getElem
  · simp
  · intro i h1 h2
    simp [key, Memory.read_writeAll, h2]

/-- A transaction of op in phase p: one register from 0x0010 of slave 1, V-CRC-9's request in TXBUF. -/
def inFlight (op : XOp) (p : Phase) : State :=
  let s := withTx connected [0x01#8, 0x03#8, 0x00#8, 0x10#8, 0x00#8, 0x01#8, 0x85#8, 0xCF#8]
  { s with regs.arg0 := 0x0010#16, regs.arg1 := 1#16, arb := ⟨p, op, 0#9, 4#8, 1000#16, 4#8, 7#16⟩ }

/-- The core's state with the environment's next clock. -/
def presenting (s : State) (c : List Event) : State := { s with env.clocks := [c] }

/-- The state a step answers, for a step that goes on (every step does). -/
def after (o : Host.Outcome State Fault Refusal) : State :=
  match o with
  | .next t => t
  | .fault _ => State.reset
  | .refused _ => State.reset

/-- One step on an instruction's packet. -/
def run (i : Instr) (s : State) : State := after (step (s.present (encode i)))

/-! ## Well-formedness -/

theorem test_wf_refuses_a_command_as_illegal_word : (Instr.illegal 0x000A#16).wf = false := by decide
theorem test_wf_accepts_illegal_words :
    (Instr.illegal 0x000B#16).wf = true ∧ (Instr.illegal 0x0010#16).wf = true := by decide
theorem test_wf_refuses_126_registers : (Instr.rdrsp 1#8 (List.replicate 126 0#16)).wf = false := by
  decide +kernel
theorem test_wf_accepts_125_registers : (Instr.rdrsp 1#8 (List.replicate 125 0#16)).wf = true := by
  simp [Instr.wf, Config.maxReadCount]

/-! ## Decoding: the words of R81 and R82, the frames of section 2.1 -/

theorem test_decode_codec_words :
    decode (.command 0b0000000000000000#16) = .ok .nop ∧ decode (.command 0b0000000000000001#16) = .ok .crc ∧
    decode (.command 0b0000000000000010#16) = .ok .encrd ∧ decode (.command 0b0000000000000011#16) = .ok .encwr ∧
    decode (.command 0b0000000000000100#16) = .ok .decode := by decide
theorem test_decode_connection_words :
    decode (.command 0b0000000000000101#16) = .ok .openPort ∧
    decode (.command 0b0000000000000110#16) = .ok .closePort := by decide
theorem test_decode_transaction_words :
    decode (.command 0b0000000000000111#16) = .ok .read ∧ decode (.command 0b0000000000001000#16) = .ok .write ∧
    decode (.command 0b0000000000001001#16) = .ok .raw ∧
    decode (.command 0b0000000000001010#16) = .ok .abort := by decide
theorem test_decode_illegal_words :
    decode (.command 0b0000000000001011#16) = .ok (.illegal 0x000B#16) ∧
    decode (.command 0b0000000000001111#16) = .ok (.illegal 0x000F#16) ∧
    decode (.command 0b0000000000010000#16) = .ok (.illegal 0x0010#16) ∧
    decode (.command 0b1000000000000111#16) = .ok (.illegal 0x8007#16) := by decide
/-- V-CRC-9. -/
theorem test_decode_rdreq :
    decode (.request [0x01#8, 0x03#8, 0x00#8, 0x10#8, 0x00#8, 0x01#8, 0x85#8, 0xCF#8]) =
      .ok (.rdreq 1#8 0x0010#16 1#16) := by decide +kernel
/-- V-CRC-25. -/
theorem test_decode_wrreq :
    decode (.request [0x02#8, 0x06#8, 0x12#8, 0x34#8, 0xAB#8, 0xCD#8, 0x73#8, 0xEA#8]) =
      .ok (.wrreq 2#8 0x1234#16 0xABCD#16) := by decide +kernel
/-- V-CRC-20. -/
theorem test_decode_rdrsp :
    decode (.response [0x01#8, 0x03#8, 0x04#8, 0x00#8, 0x00#8, 0x13#8, 0x88#8, 0xF7#8, 0x65#8]) =
      .ok (.rdrsp 1#8 [0x0000#16, 0x1388#16]) := by decide +kernel
/-- V-CRC-13. -/
theorem test_decode_wrrsp :
    decode (.response [0x01#8, 0x06#8, 0x00#8, 0x30#8, 0x01#8, 0x4A#8, 0x09#8, 0xA2#8]) =
      .ok (.wrrsp 1#8 0x0030#16 0x014A#16) := by decide +kernel
/-- V-DEC-3, V-DEC-12, V-DEC-18, V-DEC-10, V-DEC-8: refused, by name. -/
theorem test_decode_refuses_frames :
    decode (.response [0x01#8, 0x03#8, 0x00#8, 0x20#8]) = .error .tooShort ∧
    decode (.response [0x01#8, 0x03#8, 0x02#8, 0x04#8, 0xE2#8, 0xCD#8, 0x3A#8]) = .error .crcMismatch ∧
    decode (.response [0x01#8, 0x83#8, 0x02#8, 0xC0#8, 0xF1#8]) = .error (.unknownFunction 0x83#8) ∧
    decode (.response [0x01#8, 0x03#8, 0x03#8, 0x00#8, 0x01#8, 0x02#8, 0xC5#8, 0xDF#8]) = .error .oddByteCount ∧
    decode (.response [0x01#8, 0x03#8, 0x04#8, 0x00#8, 0x01#8, 0x99#8, 0x85#8]) = .error .badLength := by
  decide +kernel
theorem test_table_words :
    decodeTableWord 16 0x0007 = some .read ∧ decodeTableWord 16 0x000B = some (.illegal 0x000B#16) ∧
    decodeTableWord 8 0x03 = some (.rdrsp 0#8 []) ∧ decodeTableWord 8 0x06 = some (.wrrsp 0#8 0#16 0#16) := by
  decide +kernel

/-! ## One step of each instruction -/

/-- R110. -/
theorem test_nop : run .nop (inFlight .read .wait) = { inFlight .read .wait with env.clocks := [[]] } := by
  decide +kernel
/-- V-CRCC-1. -/
theorem test_crc :
    let t := run .crc (withTx State.reset [0x01#8, 0x06#8, 0x00#8, 0x01#8, 0x00#8, 0x01#8])
    t.peek 0x00C#10 = 0xCA19#16 ∧ t.peek 0x002#10 = 0x0010#16 := by decide +kernel
/-- V-ENC-2. -/
theorem test_encrd :
    let t := run .encrd { State.reset with regs.slave := 0xFF#8, regs.arg0 := 0xFFFF#16, regs.arg1 := 0xFFFF#16 }
    t.txBytes = [0xFF#8, 0x03#8, 0xFF#8, 0xFF#8, 0xFF#8, 0xFF#8, 0x51#8, 0x80#8] ∧ t.peek 0x002#10 = 0x0020#16 := by
  decide +kernel
/-- V-ENC-5. -/
theorem test_encwr :
    let t := run .encwr { State.reset with regs.slave := 2#8, regs.arg0 := 0x1234#16, regs.arg1 := 0xABCD#16 }
    t.txBytes = [0x02#8, 0x06#8, 0x12#8, 0x34#8, 0xAB#8, 0xCD#8, 0x73#8, 0xEA#8] ∧ t.peek 0x00C#10 = 0xEA73#16 := by
  decide +kernel
/-- V-DEC-7. -/
theorem test_decode_registers :
    let t := run .decode
      (withRx State.reset [0x01#8, 0x03#8, 0x04#8, 0x00#8, 0x00#8, 0x13#8, 0x88#8, 0xF7#8, 0x65#8])
    t.peek 0x002#10 = 0x0040#16 ∧ t.peek 0x00E#10 = 2#16 ∧ t.peek 0x00D#10 = 4#16 ∧ t.peek 0x301#10 = 0x1388#16 := by
  decide +kernel
/-- V-DEC-16: the CRC passes, the length does not. -/
theorem test_decode_refuses :
    let t := run .decode (withRx State.reset [0x01#8, 0x06#8, 0x00#8, 0x30#8, 0x01#8, 0xCC#8, 0x88#8])
    t.peek 0x002#10 = 0x0046#16 ∧ t.peek 0x011#10 = 0x0106#16 ∧ t.peek 0x00F#10 = 0#16 := by decide +kernel
/-- R131: the PHY agrees. -/
theorem test_open :
    let t := run .openPort { State.reset with regs.arg0 := 7#16, env.phyAnswers := [true] }
    t.peek 0x002#10 = 0x0050#16 ∧ t.peek 0x001#10 = 0x0006#16 ∧ t.arb.port = 7#16 := by decide +kernel
/-- R131: the PHY refuses. -/
theorem test_open_refused :
    let t := run .openPort { State.reset with env.phyAnswers := [false] }
    t.peek 0x002#10 = 0x0053#16 ∧ t.peek 0x001#10 = 0x000C#16 := by decide +kernel
/-- R132. -/
theorem test_close :
    let t := run .closePort connected
    t.peek 0x002#10 = 0x0060#16 ∧ t.peek 0x001#10 = 0x0004#16 ∧ t.env.trace = [.closePort] := by decide +kernel
/-- R135, R134: STATUS shows BUSY, CONN and phase GUARD. -/
theorem test_read :
    let t := run .read { connected with regs.arg0 := 0x0010#16, regs.arg1 := 1#16 }
    t.peek 0x001#10 = 0x0103#16 ∧ t.arb.gcnt = 4#8 ∧
      t.txBytes = [0x01#8, 0x03#8, 0x00#8, 0x10#8, 0x00#8, 0x01#8, 0x85#8, 0xCF#8] := by decide +kernel
/-- R135: a count over 125. -/
theorem test_read_out_of_range : (run .read { connected with regs.arg1 := 126#16 }).peek 0x002#10 = 0x007A#16 := by
  decide +kernel
/-- R136, with GUARD = 0: phase TX at once. -/
theorem test_write :
    let t := run .write { connected with regs.arg0 := 0x0030#16, regs.arg1 := 0x014A#16, regs.guard := 0#8 }
    t.peek 0x001#10 = 0x0203#16 ∧
      t.txBytes = [0x01#8, 0x06#8, 0x00#8, 0x30#8, 0x01#8, 0x4A#8, 0x09#8, 0xA2#8] := by decide +kernel
/-- R137: TXLEN = 0. -/
theorem test_raw_empty : (run .raw connected).peek 0x002#10 = 0x009A#16 := by decide +kernel
/-- R137: TXBUF is sent as it stands. -/
theorem test_raw :
    let t := run .raw (withTx connected [0xAA#8])
    t.arb.xop = .raw ∧ t.txBytes = [0xAA#8] ∧ t.peek 0x00C#10 = 0xFFFF#16 := by decide +kernel
/-- R153. -/
theorem test_abort :
    let t := run .abort (inFlight .write .tx)
    t.peek 0x002#10 = 0x0085#16 ∧ t.peek 0x001#10 = 0x008E#16 ∧ t.arb.xop = .none := by decide +kernel
/-- V-ISS-1: OP 0 with a bit above set. -/
theorem test_illegal : (run (.illegal 0x0010#16) State.reset).peek 0x003#10 = 0x000B#16 := by decide +kernel
/-- R142: the frame goes out and the response timer starts. -/
theorem test_rdreq :
    let t := run (.rdreq 1#8 0x0010#16 1#16) (inFlight .read .tx)
    t.arb.phase = .wait ∧ t.arb.tocnt = 1000#16 ∧
      t.env.trace = [.send 0x01#8, .send 0x03#8, .send 0x00#8, .send 0x10#8, .send 0x00#8, .send 0x01#8, .send 0x85#8,
        .send 0xCF#8] := by decide +kernel
/-- R145, R147: a first burst opens, its bytes in order. -/
theorem test_rdrsp :
    let t := run (.rdrsp 1#8 [0x04E2#16]) (inFlight .read .wait)
    t.arb.phase = .accum ∧ t.rxBytes = [0x01#8, 0x03#8, 0x02#8, 0x04#8, 0xE2#8, 0x3A#8, 0xCD#8] := by decide +kernel
/-- R142. -/
theorem test_wrreq :
    let s := withTx (inFlight .write .tx) [0x02#8, 0x06#8, 0x12#8, 0x34#8, 0xAB#8, 0xCD#8, 0x73#8, 0xEA#8]
    let t := run (.wrreq 2#8 0x1234#16 0xABCD#16) s
    t.arb.phase = .wait ∧ t.env.trace.length = 8 := by decide +kernel
/-- R149: no transaction, so the bytes are late. -/
theorem test_wrrsp :
    let t := run (.wrrsp 1#8 0x0030#16 0x014A#16) State.reset
    t.peek 0x001#10 = 0x0020#16 ∧ t.peek 0x00B#10 = 0#16 := by decide +kernel

/-- The host's view: a table word placed by `withFetchWord` is the first thing run after reset. -/
theorem test_withFetchWord :
    (after (step (State.reset.withFetchWord 16 0x000B))).regs.reject = ⟨0xB#4, .illegalCommand⟩ ∧
    (after (step (State.reset.withFetchWord 8 0x06))).regs.late = true := by decide +kernel
/-- R178: the reset goes first, whatever order the clock lists its events in. -/
theorem test_clock_order :
    nextEvent [[.hostWrite 0#10 7#16, .tick, .rst, .rxByte 1#8]] =
      some (.rst, [[.hostWrite 0#10 7#16, .tick, .rxByte 1#8]]) := by decide
/-- V-REG-1. -/
theorem test_host_write_fields :
    (State.reset.hostWrite 0x009#10 0x0100#16).peek 0x009#10 = 0x0001#16 ∧
    (State.reset.hostWrite 0x00A#10 0x1234#16).peek 0x00A#10 = 0x0100#16 ∧
    (State.reset.hostWrite 0x2FF#10 0x01FF#16).peek 0x2FF#10 = 0x00FF#16 := by decide +kernel

/-! ## Witnesses: states and operands that meet each statement's hypotheses -/

theorem witness_DecodeOfEncode :
    (Instr.rdrsp 1#8 (List.replicate 125 0xABCD#16)).wf = true ∧ (Instr.illegal 0xFFFF#16).wf = true := by
  simp [Instr.wf, Config.maxReadCount, isIllegal_iff]
theorem witness_EncodeOfDecode :
    decode (.response [0x01#8, 0x03#8, 0x00#8, 0x20#8, 0xF0#8]) = .ok (.rdrsp 1#8 []) := by decide +kernel
/-- The two branches, at their boundaries. -/
theorem witness_IllegalWordIsRejected :
    (0x000B#16).extractLsb' 0 4 = 0xB#4 ∧ (0x0010#16).extractLsb' 4 12 ≠ 0#12 ∧
      ¬((0x000A#16).extractLsb' 4 12 ≠ 0#12 ∨ 0xB ≤ ((0x000A#16).extractLsb' 0 4).toNat) := by decide
/-- A data byte and the last CRC byte of E3's frame. -/
theorem witness_SingleByteChangeIsCrcMismatch :
    let bs := [0x01#8, 0x03#8, 0x00#8, 0x20#8, 0xF0#8]
    State.reset.busy = false ∧ 5 ≤ bs.length ∧ crcOk bs = true ∧ 4 < bs.length ∧ 0xF1#8 ≠ byteAt bs 4 ∧
      (withRx State.reset (bs.set 4 0xF1#8)).rxBytes = bs.set 4 0xF1#8 ∧ 0x02#8 ≠ byteAt bs 0 ∧
      (withRx State.reset (bs.set 0 0x02#8)).rxBytes = bs.set 0 0x02#8 := by decide +kernel
/-- The premise BUSY = 0 of the statements about CRC, ENCRD, ENCWR, DECODE, OPEN, CLOSE, READ, WRITE and RAW. -/
theorem witness_idle : State.reset.busy = false ∧ connected.busy = false := by decide
/-- The premise BUSY = 1 of `IssuedAs`, of WritesWhileBusyAreIgnored and of BusyFreezesTheRequest. -/
theorem witness_busy : (inFlight .read .guard).busy = true ∧ (inFlight .raw .accum).busy = true := by decide
/-- Each verdict's branch: too short, CRC, 0x03 good and bad, 0x06 good and bad, another function. -/
theorem witness_DecodeRecordsVerdict :
    let v := fun bs => (after (exec .decode (withRx State.reset bs))).regs.result.code
    v [0x01#8, 0x03#8, 0x00#8, 0x20#8] = .malformedFrame ∧ v [0x01#8, 0x03#8, 0x00#8, 0x20#8, 0xF1#8] = .crcMismatch ∧
      v [0x01#8, 0x03#8, 0x00#8, 0x20#8, 0xF0#8] = .ok ∧
      v [0x01#8, 0x03#8, 0x04#8, 0x00#8, 0x01#8, 0x99#8, 0x85#8] = .malformedFrame ∧
      v [0x01#8, 0x06#8, 0x00#8, 0x30#8, 0x01#8, 0x4A#8, 0x09#8, 0xA2#8] = .ok ∧
      v [0x01#8, 0x06#8, 0x00#8, 0x30#8, 0x01#8, 0xCC#8, 0x88#8] = .malformedFrame ∧
      v [0x01#8, 0x83#8, 0x02#8, 0xC0#8, 0xF1#8] = .malformedFrame := by decide +kernel
/-- The shortest reply (V-DEC-4) and the longest (V-DEC-23's form: 125 registers). -/
theorem witness_DecodeOfReadResponse (regs : List Word) (h : regs.length = 0 ∨ regs.length = 125) :
    let s := withRx State.reset (readResponse 1#8 regs)
    s.busy = false ∧ s.rxBytes.length = (byteAt s.rxBytes 2).toNat + 5 ∧ (byteAt s.rxBytes 2).toNat % 2 = 0 ∧
      crcOk s.rxBytes = true ∧ byteAt s.rxBytes 1 = 0x03#8 ∧ s.rxBytes.length ≤ 256 := by
  have hl := length_readResponse 1#8 regs
  have e : (withRx State.reset (readResponse 1#8 regs)).rxBytes = readResponse 1#8 regs :=
    rxBytes_withRx _ _ (by omega)
  have hb : (byteAt (readResponse 1#8 regs) 2).toNat = 2 * regs.length := by
    show (BitVec.ofNat 8 (2 * regs.length)).toNat = _
    simp
    omega
  simp only [e, hl, hb]
  exact ⟨rfl, trivial, by omega, crcOk_withCrc _, rfl, by omega⟩
theorem witness_DecodeOfReadResponse_regs :
    ([] : List Word).length = 0 ∧ (List.replicate 125 0xABCD#16).length = 125 := by simp
theorem witness_DecodeOfWriteResponse :
    let s := withRx State.reset [0x01#8, 0x06#8, 0x00#8, 0x30#8, 0x01#8, 0x4A#8, 0x09#8, 0xA2#8]
    s.busy = false ∧ s.rxBytes.length = 8 ∧ crcOk s.rxBytes = true ∧ byteAt s.rxBytes 1 = 0x06#8 := by decide +kernel
/-- V-DEC-20 (CRC) and V-DEC-19 (function 0x10). -/
theorem witness_FailedDecodeMarksNothingValid :
    let r := fun bs => after (exec .decode (withRx State.reset bs))
    (r [0x01#8, 0x03#8, 0x09#8, 0x00#8, 0x00#8]).regs.result.code ≠ .ok ∧
      (r [0x01#8, 0x10#8, 0x00#8, 0x01#8, 0x00#8, 0x01#8, 0x50#8, 0x09#8]).regs.result.code ≠ .ok ∧
      State.reset.busy = false := by decide +kernel
theorem witness_DecodeRecoversRegisters (regs : List Word) (h : regs.length = 0 ∨ regs.length = 125) :
    State.reset.busy = false ∧ regs.length ≤ 125 ∧
      (withRx State.reset (readResponse 1#8 regs)).rxBytes = readResponse 1#8 regs :=
  ⟨rfl, by omega, rxBytes_withRx _ _ (by rw [length_readResponse]; omega)⟩
theorem witness_DecodeAcceptsExactlyTheResponses :
    (withRx State.reset (List.replicate 256 0#8)).regs.rxlen.toNat ≤ 256 := by
  show (BitVec.ofNat 9 (List.replicate 256 0#8).length).toNat ≤ 256
  rw [List.length_replicate]
  decide
/-- The three branches of OPEN with a listed answer. -/
theorem witness_OpenConnects :
    connected.regs.conn = true ∧
      State.phyAnswer { State.reset with env.phyAnswers := [true] } 7#16 = true ∧
      State.phyAnswer { State.reset with env.phyAnswers := [false] } 7#16 = false := by decide
/-- The branches of READ at issue: not connected; 0 and 126 registers; 1 and 125. -/
theorem witness_ReadAtIssue :
    let r := fun n : Word => (after (exec .read { connected with regs.arg1 := n })).peek 0x002#10
    (after (exec .read State.reset)).peek 0x002#10 = 0x0071#16 ∧ r 0#16 = 0x007A#16 ∧ r 126#16 = 0x007A#16 ∧
      (after (exec .read { connected with regs.arg1 := 1#16 })).busy = true ∧
      (after (exec .read { connected with regs.arg1 := 125#16 })).busy = true := by decide +kernel
theorem witness_WriteAtIssue :
    (after (exec .write State.reset)).peek 0x002#10 = 0x0081#16 ∧ (after (exec .write connected)).busy = true := by
  decide +kernel
theorem witness_RawAtIssue :
    (after (exec .raw State.reset)).peek 0x002#10 = 0x0091#16 ∧ connected.regs.txlen = 0#9 ∧
      (after (exec .raw (withTx connected [0#8]))).busy = true := by decide +kernel
/-- A word for each case of R172: NOP, illegal by OP and by bits 15:4, ABORT, a command with BUSY = 1 and 0. -/
theorem witness_CommandIssue :
    (∀ w ∈ [0x0000#16, 0x000B#16, 0x0010#16, 0x000A#16, 0x0009#16, 0x0001#16],
      nextEvent (presenting State.reset [.hostWrite 0#10 w]).env.clocks = some (.hostWrite 0#10 w, [[]])) ∧
      (after (step (presenting (inFlight .read .wait) [.hostWrite 0#10 0x0009#16]))).peek 0x003#10 = 0x0099#16 ∧
      (after (step (presenting State.reset [.hostWrite 0#10 0x0001#16]))).peek 0x002#10 = 0x0010#16 :=
  ⟨fun _ _ => rfl, by decide +kernel, by decide +kernel⟩
theorem witness_AbortCancels : State.reset.arb.xop = .none ∧ (inFlight .raw .wait).arb.xop ≠ .none := by decide
/-- The four ends of the two reserved ranges, and their neighbours outside. -/
theorem witness_ReservedAddressesAreInert :
    let p := fun a : HostAddr => (0x012 ≤ a.toNat ∧ a.toNat ≤ 0x0FF) ∨ (0x37D ≤ a.toNat ∧ a.toNat ≤ 0x3FF)
    (p 0x012#10 ∧ p 0x0FF#10 ∧ p 0x37D#10 ∧ p 0x3FF#10) ∧ ¬p 0x011#10 ∧ ¬p 0x100#10 ∧ ¬p 0x37C#10 := by decide
theorem witness_WritesWhileBusyAreIgnored : (inFlight .read .tx).busy = true ∧ (0x004#10 : HostAddr) ≠ 0#10 := by
  decide
/-- Each clause at a boundary: GAP at 0 and 0xFF, TXLEN at 256 and 257, the first and last writable buffer address. -/
theorem witness_HostWriteStoresFields :
    let w := fun (a : HostAddr) (v : Word) => (State.reset.react (.hostWrite a v)).peek a
    State.reset.busy = false ∧ w 0x008#10 0x0305#16 = 0x0005#16 ∧ w 0x007#10 0xFFFF#16 = 0xFFFF#16 ∧
      w 0x009#10 0#16 = 1#16 ∧ w 0x009#10 0x00FF#16 = 0x00FF#16 ∧ w 0x00A#10 256#16 = 256#16 ∧
      w 0x00B#10 257#16 = 256#16 ∧ w 0x100#10 0xABCD#16 = 0x00CD#16 ∧ w 0x2FF#10 0x01FF#16 = 0x00FF#16 ∧
      w 0x00C#10 0#16 = 0xFFFF#16 := by decide +kernel
theorem witness_GuardEndsAtItsTick :
    (inFlight .read .guard).arb.phase = .guard ∧ (inFlight .read .guard).arb.gcnt ≠ 0#8 ∧
      (State.tickMany 3 (inFlight .read .guard)).arb.phase = .guard ∧
      (State.tickMany 4 (inFlight .read .guard)).arb.phase = .tx := by decide +kernel
/-- With one tick left, the first tick ends the wait. -/
theorem witness_WaitTimesOutAtItsTick :
    let s := { inFlight .read .wait with arb.tocnt := 1#16 }
    s.arb.phase = .wait ∧ s.arb.tocnt ≠ 0#16 ∧ (State.tickMany 1 s).peek 0x002#10 = 0x0075#16 := by decide +kernel
theorem witness_GapEndsTheBurst :
    let s := withRx (inFlight .read .accum) [0x01#8, 0x03#8, 0x02#8, 0x04#8, 0xE2#8, 0x3A#8, 0xCD#8]
    s.arb.phase = .accum ∧ s.arb.gapcnt ≠ 0#8 ∧ (State.tickMany 3 s).busy = true ∧
      (State.tickMany 4 s).peek 0x002#10 = 0x0070#16 := by decide +kernel
theorem witness_LateByteIsDiscarded : State.reset.arb.phase = .idle ∧ (inFlight .raw .guard).arb.phase = .guard := by
  decide
/-- 255 bytes held, and 256; each of the phases that store. -/
theorem witness_ReceivedByteIsStored (p : Phase) (h : p = .tx ∨ p = .wait ∨ p = .accum) :
    let s := { inFlight .raw p with regs.rxlen := 255#9 }
    let t := { inFlight .raw p with regs.rxlen := 256#9 }
    s.arb.phase ≠ .guard ∧ s.arb.phase ≠ .idle ∧ s.regs.rxlen.toNat < 256 ∧ s.regs.rxlen.toNat ≤ 256 ∧
      t.arb.phase ≠ .guard ∧ t.arb.phase ≠ .idle ∧ ¬t.regs.rxlen.toNat < 256 ∧ t.regs.rxlen.toNat ≤ 256 := by
  rcases h with rfl | rfl | rfl <;> decide
/-- A RAW of one byte, and the last byte of a request; each way to leave TX: a timeout, none, a byte received. -/
theorem witness_FrameIsSentInOrder :
    let last := fun s : State => { s with arb.txptr := 7#9 }
    ∀ s ∈ [withTx (inFlight .raw .tx) [0xFF#8], last (inFlight .read .tx),
        { last (inFlight .read .tx) with regs.timeout := 0#16 }, { last (inFlight .read .tx) with regs.rxlen := 1#9 }],
      s.arb.phase = .tx ∧ s.arb.txptr.toNat < s.regs.txlen.toNat ∧
        s.regs.txlen.toNat - s.arb.txptr.toNat = 1 ∧ s.onTxTake.arb.phase ≠ .tx := by decide +kernel
/-- The three ways a request leaves TX: a byte has come, no timeout, a timeout. -/
theorem witness_RequestFramesAreSent :
    let bs := withCrc [0x01#8, 0x03#8, hi8 0x0010#16, lo8 0x0010#16, hi8 1#16, lo8 1#16]
    ∀ s ∈ [inFlight .read .tx, { inFlight .read .tx with regs.timeout := 0#16 },
        { inFlight .read .tx with regs.rxlen := 1#9 }],
      s.arb.phase = .tx ∧ s.arb.txptr = 0#9 ∧ s.regs.txlen.toNat = bs.length ∧ s.txBytes = bs := by decide +kernel
theorem witness_WriteRequestIsSent :
    let bs := withCrc [0x02#8, 0x06#8, hi8 0x1234#16, lo8 0x1234#16, hi8 0xABCD#16, lo8 0xABCD#16]
    let s := withTx (inFlight .write .tx) [0x02#8, 0x06#8, 0x12#8, 0x34#8, 0xAB#8, 0xCD#8, 0x73#8, 0xEA#8]
    s.arb.phase = .tx ∧ s.arb.txptr = 0#9 ∧ s.regs.txlen.toNat = bs.length ∧ s.txBytes = bs := by decide +kernel
theorem witness_UnofferedRequestIsNotTaken :
    State.reset.offered ≠ shortFrame 1#8 0x03#8 0x0010#16 1#16 ∧
      (inFlight .read .tx).offered ≠ shortFrame 2#8 0x06#8 0x0010#16 1#16 := by decide +kernel
/-- A frame that fills RXBUF exactly, one that is a byte too long for it, and the phases that discard. -/
theorem witness_ResponseFramesArrive :
    let s := fun n : BitVec 9 => { inFlight .read .accum with regs.rxlen := n }
    ((s 251#9).arb.phase ≠ .idle ∧ (s 251#9).arb.phase ≠ .guard ∧ (s 251#9).regs.rxlen.toNat ≤ 256 ∧
      (s 252#9).regs.rxlen.toNat ≤ 256) ∧
      (251#9).toNat + (readResponse 1#8 []).length = 256 ∧ (252#9).toNat + (readResponse 1#8 []).length = 257 ∧
      (after (exec (.rdrsp 1#8 []) (s 251#9))).peek 0x001#10 &&& 0x0040#16 = 0#16 ∧
      (after (exec (.rdrsp 1#8 []) (s 252#9))).peek 0x001#10 &&& 0x0040#16 = 0x0040#16 ∧
      (after (exec (.rdrsp 1#8 []) (s 252#9))).peek 0x00B#10 = 256#16 ∧
      State.reset.arb.phase = .idle ∧ (inFlight .read .guard).arb.phase = .guard := by decide +kernel
theorem witness_WriteErrorEndsTransaction : (inFlight .write .tx).arb.phase = .tx := by decide
theorem witness_EventsWithoutEffect :
    State.reset.arb.phase = .idle ∧ (inFlight .read .tx).arb.phase = .tx ∧ (inFlight .read .wait).arb.phase ≠ .tx := by
  decide
theorem witness_PhyEventsOutOfPlaceAreInert :
    State.reset.phyAllows .txTake = false ∧ (inFlight .read .wait).phyAllows .txError = false ∧
      State.reset.phyAllows .linkLost = false ∧ (inFlight .read .tx).phyAllows (.takeFrame [0x01#8]) = false ∧
      (inFlight .read .tx).phyAllows .txTake = true := by decide +kernel
theorem witness_LinkLossDisconnects :
    State.reset.regs.conn = false ∧ connected.regs.conn = true ∧ connected.arb.xop = .none ∧
      (inFlight .read .wait).regs.conn = true ∧ (inFlight .read .wait).arb.xop ≠ .none := by decide
theorem witness_ResetSetsEveryRegister : State.reset.regs.conn = false ∧ connected.regs.conn = true := by decide
/-- V-DEC-6's reply for one register. -/
theorem witness_ReadSucceedsExactlyOnItsReply :
    let s := withRx (inFlight .read .accum) (readResponse 1#8 [0x04E2#16])
    s.arb.xop = .read ∧ s.regs.ovf = false ∧ s.regs.rxlen.toNat ≤ 256 ∧ s.regs.arg1.toNat ≤ 125 ∧
      [0x04E2#16].length = s.regs.arg1.toNat ∧ s.rxBytes = readResponse 1#8 [0x04E2#16] ∧
      s.completeXact.regs.result = ⟨0x7#4, .ok⟩ := by decide +kernel
/-- V-TX-18, V-TX-19 and V-TX-20: one register of two, a 0x06 frame, a corrupted byte. -/
theorem witness_ReadRefusesOtherReplies :
    let s := fun bs => withRx (inFlight .read .accum) bs
    let two := fun bs : List Byte => { s bs with regs.arg1 := 2#16 }
    (∀ bs ∈ [[0x01#8, 0x03#8, 0x02#8, 0x00#8, 0x01#8, 0x79#8, 0x84#8],
        [0x01#8, 0x06#8, 0x00#8, 0x01#8, 0x00#8, 0x01#8, 0x19#8, 0xCA#8],
        [0x01#8, 0x03#8, 0x02#8, 0x04#8, 0xE3#8, 0x3A#8, 0xCD#8]],
      (two bs).arb.xop = .read ∧ (two bs).regs.ovf = false ∧ (two bs).regs.rxlen.toNat ≤ 256 ∧
        (two bs).regs.arg1.toNat ≤ 125 ∧ (two bs).completeXact.regs.nregs = 0#7) ∧
      (two [0x01#8, 0x03#8, 0x02#8, 0x00#8, 0x01#8, 0x79#8, 0x84#8]).completeXact.peek 0x002#10 = 0x0076#16 ∧
      (s [0x01#8, 0x06#8, 0x00#8, 0x01#8, 0x00#8, 0x01#8, 0x19#8, 0xCA#8]).completeXact.peek 0x002#10 = 0x0076#16 ∧
      (s [0x01#8, 0x03#8, 0x02#8, 0x04#8, 0xE3#8, 0x3A#8, 0xCD#8]).completeXact.peek 0x002#10 = 0x0077#16 := by
  decide +kernel
/-- A WRITE refused with each code: 4 bytes, a corrupted byte, a 0x03 reply, another value. -/
theorem witness_WriteRefusesOtherReplies :
    let r := fun bs => (withRx (inFlight .write .accum) bs).completeXact.peek 0x002#10
    r [0x01#8, 0x06#8, 0x00#8, 0x10#8] = 0x0086#16 ∧
      r [0x01#8, 0x06#8, 0x00#8, 0x30#8, 0x01#8, 0x4B#8, 0x09#8, 0xA2#8] = 0x0087#16 ∧
      r [0x01#8, 0x03#8, 0x02#8, 0x04#8, 0xE2#8, 0x3A#8, 0xCD#8] = 0x0086#16 ∧
      r [0x01#8, 0x06#8, 0x00#8, 0x30#8, 0x01#8, 0x4A#8, 0x09#8, 0xA2#8] = 0x0088#16 := by decide +kernel
theorem witness_WriteSucceedsExactlyOnItsEcho :
    let s := withRx (inFlight .write .accum) (shortFrame 1#8 0x06#8 0x0010#16 1#16)
    s.arb.xop = .write ∧ s.regs.ovf = false ∧ s.regs.rxlen.toNat ≤ 256 ∧
      s.rxBytes = shortFrame 1#8 0x06#8 s.regs.arg0 s.regs.arg1 ∧ s.completeXact.regs.result = ⟨0x8#4, .ok⟩ := by
  decide +kernel
/-- V-CRC-30: the value differs. -/
theorem witness_WrongEchoIsWriteVerificationFailed :
    let s := withRx (inFlight .write .accum) (shortFrame 1#8 0x06#8 0x0030#16 0x014B#16)
    s.arb.xop = .write ∧ s.regs.ovf = false ∧ s.rxBytes = shortFrame 1#8 0x06#8 0x0030#16 0x014B#16 ∧
      (0x0030#16 ≠ s.regs.arg0 ∨ 0x014B#16 ≠ s.regs.arg1) := by decide +kernel
/-- Each verdict of RAW: 4 bytes, a wrong CRC, an exception response (V-DEC-18) that passes. -/
theorem witness_RawChecksLengthAndCrc :
    let r := fun bs => (withRx (inFlight .raw .accum) bs).completeXact.regs.result
    (inFlight .raw .accum).arb.xop = .raw ∧ (inFlight .raw .accum).regs.ovf = false ∧
      r [0x01#8, 0x03#8, 0x00#8, 0x20#8] = ⟨9#4, .malformedFrame⟩ ∧
      r [0x01#8, 0x83#8, 0x02#8, 0xC0#8, 0xF2#8] = ⟨9#4, .crcMismatch⟩ ∧
      r [0x01#8, 0x83#8, 0x02#8, 0xC0#8, 0xF1#8] = ⟨9#4, .ok⟩ := by decide +kernel
theorem witness_OverflowIsMalformed : (State.regs { inFlight .raw .accum with regs.ovf := true }).ovf = true := by
  decide
/-- An event that carries an instruction, and a state with a packet presented. -/
theorem witness_StepRunsDecodedInstruction :
    let s := presenting State.reset [.hostWrite 0#10 0x0001#16]
    nextEvent s.env.clocks = some (.hostWrite 0#10 0x0001#16, [[]]) ∧
      (Event.hostWrite 0#10 0x0001#16).packet = some (.command 0x0001#16) ∧
      decode (.command 0x0001#16) = .ok .crc ∧ nextEvent (State.reset.present (.command 1#16)).env.clocks ≠ none := by
  decide
/-- A tick, a write to SLAVE, and a frame that is none of the table's (V-DEC-18). -/
theorem witness_StepAppliesOneEvent :
    (∀ e ∈ [Event.tick, .hostWrite 0x004#10 2#16, .rxFrame [0x01#8, 0x83#8, 0x02#8, 0xC0#8, 0xF1#8]],
      nextEvent (presenting State.reset [e]).env.clocks = some (e, [[]]) ∧ e.instr = none) := by decide +kernel
theorem witness_ClockOrderIsKept : ([.tick, .rst] : List Event) ≠ [] := by decide

/-- The invariants hold of a READ that has just started. -/
theorem inv_of_started : State.Inv (inFlight .read .guard) := by constructor <;> decide
theorem held_of_started : State.RequestHeld (inFlight .read .guard) := by
  constructor <;> decide +kernel
theorem witness_StepKeepsInv :
    (presenting (inFlight .read .guard) [.tick]).Inv ∧
      step (presenting (inFlight .read .guard) [.tick]) =
        .next (State.onTick { presenting (inFlight .read .guard) [.tick] with env.clocks := [[]] }) :=
  ⟨⟨inv_of_started.1, inv_of_started.2, inv_of_started.3, inv_of_started.4, inv_of_started.5, inv_of_started.6,
    inv_of_started.7, inv_of_started.8, inv_of_started.9, inv_of_started.10, inv_of_started.11, inv_of_started.12,
    inv_of_started.13, inv_of_started.14, inv_of_started.15, inv_of_started.16, inv_of_started.17, inv_of_started.18,
    inv_of_started.19, inv_of_started.20, inv_of_started.21, inv_of_started.22, inv_of_started.23,
    inv_of_started.24⟩, rfl⟩
theorem witness_StepKeepsRequestHeld : (inFlight .read .guard).RequestHeld ∧ (inFlight .read .guard).Inv :=
  ⟨held_of_started, inv_of_started⟩
theorem witness_BusyFreezesTheRequest :
    let s := presenting (inFlight .read .wait) [.hostWrite 0x004#10 2#16]
    s.busy = true ∧ (after (step s)).requestAsIn s ∧
      nextEvent s.env.clocks = some (.hostWrite 0x004#10 2#16, [[]]) :=
  ⟨by decide, by constructor <;> decide +kernel, rfl⟩
/-- A command that completes at issue, and a transaction that times out on its last tick. -/
theorem witness_ResultChangesOnlyAtCompletion :
    let s := presenting State.reset [.hostWrite 0#10 0x0001#16]
    let w := presenting { inFlight .read .wait with arb.tocnt := 1#16 } [.tick]
    nextEvent s.env.clocks = some (.hostWrite 0#10 0x0001#16, [[]]) ∧
      (after (step s)).regs.result ≠ s.regs.result ∧ s.busy = false ∧
      (after (step w)).regs.result = ⟨7#4, .responseTimeout⟩ ∧ w.regs.result = ⟨0#4, .ok⟩ ∧ w.busy = true ∧
      (after (step w)).busy = false := by decide +kernel
theorem witness_ResultChangesOnlyAtCompletion_inv :
    (presenting State.reset [.hostWrite 0#10 0x0001#16]).Inv ∧
      (presenting { inFlight .read .wait with arb.tocnt := 1#16 } [.tick]).Inv := by
  constructor <;> constructor <;> decide
theorem witness_OnlyOpenConnects :
    let s := presenting { State.reset with env.phyAnswers := [true] } [.hostWrite 0#10 0x0005#16]
    s.regs.conn = false ∧ (after (step s)).regs.conn = true := by decide +kernel
/-- READ with and without a guard delay, the guard's last tick, and a byte taken in TX. -/
theorem witness_TransactionsStartOnlyOnCommand :
    let s := presenting { connected with regs.arg1 := 1#16 } [.hostWrite 0#10 0x0007#16]
    let g := presenting { inFlight .read .guard with arb.gcnt := 1#8 } [.tick]
    let x := presenting (inFlight .read .tx) [.txTake]
    (s.busy = false ∧ (after (step s)).busy = true ∧ (after (step s)).arb.phase = .guard) ∧
      (after (step { s with regs.guard := 0#8 })).arb.phase = .tx ∧
      (g.arb.phase = .guard ∧ (after (step g)).arb.phase = .tx) ∧
      x.arb.phase = .tx ∧ (after (step x)).arb.phase = .tx ∧ (after (step x)).arb.txptr = 1#9 := by decide +kernel
theorem witness_TransactionsStartOnlyOnCommand_inv : (presenting (inFlight .read .tx) [.txTake]).Inv := by
  constructor <;> decide
/-- The smallest and the largest count, the reply on the last tick before the timeout. -/
theorem witness_ReadCompletesEndToEnd (regs : List Word) (h : regs.length = 1 ∨ regs.length = 125) :
    let s := { connected with regs.arg1 := BitVec.ofNat 16 regs.length }
    s.busy = false ∧ s.regs.conn = true ∧ regs.length = s.regs.arg1.toNat ∧ 1 ≤ regs.length ∧ regs.length ≤ 125 ∧
      999 < s.regs.timeout.toNat := by
  refine ⟨rfl, rfl, ?_, by omega, by omega, (by decide : 999 < (1000#16).toNat)⟩
  rcases h with h | h <;> simp [h]
theorem witness_ReadCompletesEndToEnd_inv : State.Inv { connected with regs.arg1 := 1#16 } := by
  constructor <;> decide

end Sys2Proof.Tests
end

section
/-! PROOFS. Host accesses (20_memory.md R63 to R65): what a host write stores, what it leaves, and the reserved
addresses. -/

namespace Sys2Proof.Machine

section HostWrite

variable (s : State) (a : HostAddr) (v : Word)

/-! ### A host write by BUSY (20_memory.md R64) -/

theorem hostWrite_of_busy {s : State} (h : s.busy = true) : s.hostWrite a v = s := if_pos h

theorem hostWrite_of_free {s : State} (h : s.busy = false) : s.hostWrite a v = s.poke a v := by
  simp [State.hostWrite, h]

/-! ### The field rules as numbers (10_state.md R33 to R35) -/

theorem toNat_lo8 : (lo8 v).toNat = v.toNat % 256 := by simp [lo8]

theorem setWidth_clampGap : (clampGap v).setWidth 16 = BitVec.ofNat 16 (max (v.toNat % 256) 1) := by
  have hzero : lo8 v = 0#8 ↔ v.toNat % 256 = 0 := by rw [← BitVec.toNat_inj, toNat_lo8]; rfl
  apply BitVec.eq_of_toNat_eq
  unfold clampGap
  by_cases h : lo8 v = 0#8
  · rw [if_pos h, hzero.1 h]; rfl
  · have hpos : 1 ≤ v.toNat % 256 := Nat.pos_of_ne_zero (mt hzero.2 h)
    rw [if_neg h, BitVec.toNat_setWidth, toNat_lo8, BitVec.toNat_ofNat, max_eq_left hpos]

theorem setWidth_clampLen : (clampLen v).setWidth 16 = BitVec.ofNat 16 (min v.toNat 256) := by
  apply BitVec.eq_of_toNat_eq
  unfold clampLen
  split
  · rw [min_eq_right ‹_›]; rfl
  · simp only [BitVec.toNat_setWidth, BitVec.toNat_ofNat]
    omega

/-! ### One byte of a buffer written (10_state.md R40) -/

theorem txByte_write (i j : Nat) (b : Byte) :
    State.txByte { s with bufs.tx := Memory.write s.bufs.tx i b } j = if j = i then b else s.txByte j := by
  simp only [State.txByte, Memory.read_write]
  split <;> rfl

theorem rxByte_write (i j : Nat) (b : Byte) :
    State.rxByte { s with bufs.rx := Memory.write s.bufs.rx i b } j = if j = i then b else s.rxByte j := by
  simp only [State.rxByte, Memory.read_write]
  split <;> rfl

/-! ### What a stored host write leaves (20_memory.md R63) -/

/-- What no host write reaches: the arbiter, the environment, the flags, RESULT and REJECT. -/
def State.recordAsIn (t s : State) : Prop :=
  t.arb = s.arb ∧ t.env = s.env ∧ t.regs.conn = s.regs.conn ∧ t.regs.done = s.regs.done ∧ t.regs.late = s.regs.late ∧
    t.regs.ovf = s.regs.ovf ∧ t.regs.aborted = s.regs.aborted ∧ t.regs.result = s.regs.result ∧
    t.regs.reject = s.regs.reject

theorem poke_recordAsIn : (s.poke a v).recordAsIn s := by
  apply poke_cases (motive := fun t => t.recordAsIn s) <;> intros <;>
    exact ⟨rfl, rfl, rfl, rfl, rfl, rfl, rfl, rfl, rfl⟩

/-- Each case of `poke` differs from s in one thing that a read can see, and reads it at the address written. -/
theorem peek_poke_of_ne {a b : HostAddr} (h : b ≠ a) : (s.poke a v).peek b = s.peek b := by
  have hne : b.toNat ≠ a.toNat := fun e => h (BitVec.eq_of_toNat_eq e)
  apply poke_cases (motive := fun t => t.peek b = s.peek b)
  case slave => intro ha; apply peek_congr (slave := fun hb => absurd (hb.trans ha.symm) hne) <;> intros <;> rfl
  case arg0 => intro ha; apply peek_congr (arg0 := fun hb => absurd (hb.trans ha.symm) hne) <;> intros <;> rfl
  case arg1 => intro ha; apply peek_congr (arg1 := fun hb => absurd (hb.trans ha.symm) hne) <;> intros <;> rfl
  case timeout => intro ha; apply peek_congr (timeout := fun hb => absurd (hb.trans ha.symm) hne) <;> intros <;> rfl
  case guard => intro ha; apply peek_congr (guard := fun hb => absurd (hb.trans ha.symm) hne) <;> intros <;> rfl
  case gap => intro ha; apply peek_congr (gap := fun hb => absurd (hb.trans ha.symm) hne) <;> intros <;> rfl
  case txlen => intro ha; apply peek_congr (txlen := fun hb => absurd (hb.trans ha.symm) hne) <;> intros <;> rfl
  case rxlen => intro ha; apply peek_congr (rxlen := fun hb => absurd (hb.trans ha.symm) hne) <;> intros <;> rfl
  case tx =>
    intro i _ ha
    have untouched (j : Nat) (_ : j < 256) (hb : b.toNat = 0x100 + j) :
        State.txByte { s with bufs.tx := Memory.write s.bufs.tx i (lo8 v) } j = s.txByte j := by
      rw [txByte_write, if_neg (by omega)]
    apply peek_congr (tx := untouched) <;> intros <;> rfl
  case rx =>
    intro i _ ha
    have untouched (j : Nat) (_ : j < 256) (hb : b.toNat = 0x200 + j) :
        State.rxByte { s with bufs.rx := Memory.write s.bufs.rx i (lo8 v) } j = s.rxByte j := by
      rw [rxByte_write, if_neg (by omega)]
    apply peek_congr (rx := untouched) <;> intros <;> rfl
  case rest => exact fun _ => rfl

/-! ### What a stored host write makes its address read (10_state.md R28 to R35, R40) -/

/-- The read of an address after v has been stored there by the field rule of its register. -/
def State.readAfterPoke (s : State) (a : HostAddr) (v : Word) : Word :=
  if a.toNat = 0x004 ∨ a.toNat = 0x008 then (lo8 v).setWidth 16
  else if a.toNat = 0x005 ∨ a.toNat = 0x006 ∨ a.toNat = 0x007 then v
  else if a.toNat = 0x009 then BitVec.ofNat 16 (max (v.toNat % 256) 1)
  else if a.toNat = 0x00A ∨ a.toNat = 0x00B then BitVec.ofNat 16 (min v.toNat 256)
  else if 0x100 ≤ a.toNat ∧ a.toNat < 0x300 then (lo8 v).setWidth 16
  else s.peek a

theorem readAfterPoke_buffer {s : State} {a : HostAddr} {v : Word} (h : 0x100 ≤ a.toNat ∧ a.toNat < 0x300) :
    s.readAfterPoke a v = (lo8 v).setWidth 16 := by
  unfold State.readAfterPoke
  iterate 4 rw [if_neg (by omega)]
  rw [if_pos h]

theorem readAfterPoke_rest {s : State} {a : HostAddr} {v : Word}
    (h : a.toNat < 0x004 ∨ 0x00C ≤ a.toNat ∧ a.toNat < 0x100 ∨ 0x300 ≤ a.toNat) :
    s.readAfterPoke a v = s.peek a := by
  unfold State.readAfterPoke
  iterate 5 rw [if_neg (by omega)]

theorem peek_poke_self : (s.poke a v).peek a = s.readAfterPoke a v := by
  have at_addr {n : HostAddr} (h : a.toNat = n.toNat) : a = n := BitVec.eq_of_toNat_eq h
  apply poke_cases (motive := fun t => t.peek a = s.readAfterPoke a v)
  case slave => intro ha; obtain rfl := at_addr (n := 0x004#10) ha; rfl
  case arg0 => intro ha; obtain rfl := at_addr (n := 0x005#10) ha; rfl
  case arg1 => intro ha; obtain rfl := at_addr (n := 0x006#10) ha; rfl
  case timeout => intro ha; obtain rfl := at_addr (n := 0x007#10) ha; rfl
  case guard => intro ha; obtain rfl := at_addr (n := 0x008#10) ha; rfl
  case gap => intro ha; obtain rfl := at_addr (n := 0x009#10) ha; exact setWidth_clampGap v
  case txlen => intro ha; obtain rfl := at_addr (n := 0x00A#10) ha; exact setWidth_clampLen v
  case rxlen => intro ha; obtain rfl := at_addr (n := 0x00B#10) ha; exact setWidth_clampLen v
  case tx =>
    intro i hi ha
    rw [readAfterPoke_buffer (by omega), at_addr (n := BitVec.ofNat 10 (0x100 + i)) (by simp; omega), peek_txbuf _ hi,
      txByte_write, if_pos rfl]
  case rx =>
    intro i hi ha
    rw [readAfterPoke_buffer (by omega), at_addr (n := BitVec.ofNat 10 (0x200 + i)) (by simp; omega), peek_rxbuf _ hi,
      rxByte_write, if_pos rfl]
  case rest => exact fun h => (readAfterPoke_rest h).symm

/-! ### Reserved addresses (20_memory.md R65) -/

theorem peek_reserved {a : HostAddr}
    (h : (0x012 ≤ a.toNat ∧ a.toNat ≤ 0x0FF) ∨ (0x37D ≤ a.toNat ∧ a.toNat ≤ 0x3FF)) : s.peek a = 0#16 := by
  unfold State.peek
  dsimp only
  iterate 18 rw [if_neg (by omega)]
  rcases h with low | high
  · rw [if_pos (by omega)]
  · iterate 4 rw [if_neg (by omega)]

/-- Of the cases of `poke`, a reserved address meets only the one that stores nothing. -/
theorem poke_reserved {a : HostAddr}
    (h : (0x012 ≤ a.toNat ∧ a.toNat ≤ 0x0FF) ∨ (0x37D ≤ a.toNat ∧ a.toNat ≤ 0x3FF)) : s.poke a v = s := by
  apply poke_cases (motive := fun t => t = s)
  case rest => exact fun _ => rfl
  all_goals intros; omega

end HostWrite

/-! ### The obligations -/

/-- Settles O28: `react` hands the write to `hostWrite`, which BUSY stops. -/
theorem writesWhileBusyAreIgnored : Obligations.WritesWhileBusyAreIgnored :=
  fun _ a v busy _ => hostWrite_of_busy a v busy

/-- Settles O27, busy or not: a write that is not ignored stores nothing at a reserved address. -/
theorem reservedAddressesAreInert : Obligations.ReservedAddressesAreInert := by
  intro s a v reserved
  have stored : s.hostWrite a v = s := by
    cases busy : s.busy with
    | true => exact hostWrite_of_busy a v busy
    | false => rw [hostWrite_of_free a v busy, poke_reserved s v reserved]
  exact ⟨peek_reserved s reserved, stored⟩

/-- Settles O29: a write that is not ignored is `poke`, read back at its own address and at every other. -/
theorem hostWriteStoresFields : Obligations.HostWriteStoresFields := by
  refine ⟨fun _ => rfl, fun s a v _ => ?_⟩
  dsimp only [State.react]
  cases busy : s.busy with
  | true => exact hostWrite_of_busy a v busy
  | false =>
    rw [hostWrite_of_free a v busy]
    exact ⟨peek_poke_self s a v, fun b hb => peek_poke_of_ne s v hb, poke_recordAsIn s a v⟩

end Sys2Proof.Machine
end

section
/-! PROOFS. The two halves of the command words (30_encoding.md R81, R82): what each decodes to, and what an illegal
word does. -/

namespace Sys2Proof.Machine

/-! ### Decoding a command word -/

theorem decodeCommand_of_illegal {w : Word} (h : isIllegal w = true) : decodeCommand w = .illegal w := if_pos h

/-- A word that is not illegal meets one of the eleven arms of the decoder's match on OP. -/
theorem decodeCommand_mem_commands {w : Word} (h : isIllegal w = false) :
    decodeCommand w ∈
      [.nop, .crc, .encrd, .encwr, .decode, .openPort, .closePort, .read, .write, .raw, .abort] := by
  rw [decodeCommand, h, if_neg Bool.false_ne_true]
  split <;> simp only [List.mem_cons, true_or, or_true]

/-! ### Running an illegal word -/

theorem exec_illegal (w : Word) (s : State) : exec (.illegal w) s = .next (s.reject (opOf w) .illegalCommand) := rfl

/-- REJECT after a rejection with IllegalCommand, code 11, as the host reads it (10_state.md R27). -/
theorem peek_reject_illegalCommand (s : State) (op : BitVec 4) :
    (s.reject op .illegalCommand).peek 0x003#10 = (op.setWidth 16 <<< 4) ||| 0x000B#16 := by
  rw [peek_reject, reject_regs_reject]
  rfl

/-! ### The obligation -/

/-- Settles O4, by the rule's own condition, which `isIllegal_iff` says is the decoder's. -/
theorem illegalWordIsRejected : Obligations.IllegalWordIsRejected := by
  intro w s
  split
  case isTrue illegal =>
    exact ⟨decodeCommand_of_illegal ((isIllegal_iff w).2 illegal), _, exec_illegal w s, rfl,
      peek_reject_illegalCommand s (opOf w)⟩
  case isFalse legal =>
    exact decodeCommand_mem_commands (Bool.eq_false_iff.2 (mt (isIllegal_iff w).1 legal))

end Sys2Proof.Machine
end

section
/-! PROOFS. The CRC16 function by its rules (40_crc16.md R100, R101), what the acceptance and the completion of a command
leave the host to read (60_exceptions.md R172, R173, R175), and the CRC command (R102). -/

namespace Sys2Proof.Machine

/-! ### The CRC16 function -/

@[simp] theorem crc16_nil : crc16 [] = 0xFFFF#16 := rfl

/-- The bytes are taken in sequence order, so the last one is taken last (R100). -/
theorem crc16_concat (bs : List Byte) (b : Byte) : crc16 (bs ++ [b]) = crcByte (crc16 bs) b := List.foldl_concat ..

theorem crcShifts_eq_iterate (n : Nat) (c : Word) : crcShifts n c = crcShift^[n] c := by
  induction n generalizing c with
  | zero => rfl
  | succ n ih => exact ih (crcShift c)

theorem crcByte_eq_iterate (c : Word) (b : Byte) : crcByte c b = crcShift^[8] (c ^^^ b.setWidth 16) :=
  crcShifts_eq_iterate 8 _

/-- Settles O5: `crcShift` is the iteration that R101 writes out. -/
theorem crcAlgorithm : Obligations.CrcAlgorithm := ⟨crc16_nil, crc16_concat, crcByte_eq_iterate⟩

/-! ### The issue of a command word (60_exceptions.md R172) -/

/-- A command that goes through `issue` under the OP of its own word is rejected while BUSY = 1. -/
theorem issuedAs_of_exec_eq_issue {i : Instr} {w : Word} {run : State → State}
    (decodes : decode (.command w) = .ok i) (runs : ∀ s, exec i s = .next (s.issue (w.extractLsb' 0 4) run)) :
    Claims.IssuedAs i w :=
  ⟨decodes, fun s busy => by rw [runs, issue_of_busy busy]; rfl⟩

section Reads

variable (s : State)

/-! ### The flags after acceptance and completion (R173, R175) -/

theorem accepted_accept : s.accept.Accepted := ⟨rfl, rfl, rfl, rfl⟩

theorem acceptedAndDone_finish {s : State} (accepted : s.Accepted) (op : BitVec 4) (c : Code) :
    (s.finish op c).AcceptedAndDone (Record.word ⟨op, c⟩) :=
  ⟨⟨accepted.late, accepted.ovf, accepted.aborted, accepted.reject⟩, rfl, rfl⟩

/-! ### The addresses that acceptance, completion and a write of CRC leave as they read -/

/-- Acceptance shows in STATUS and REJECT alone. -/
theorem peek_accept {a : HostAddr} (status : a.toNat ≠ 0x001) (reject : a.toNat ≠ 0x003) :
    s.accept.peek a = s.peek a := by
  apply peek_congr (status := fun h => absurd h status) (reject := fun h => absurd h reject) <;> intros <;> rfl

/-- Completion shows in STATUS and RESULT alone. -/
theorem peek_finish {a : HostAddr} (op : BitVec 4) (c : Code) (status : a.toNat ≠ 0x001) (result : a.toNat ≠ 0x002) :
    (s.finish op c).peek a = s.peek a := by
  apply peek_congr (status := fun h => absurd h status) (result := fun h => absurd h result) <;> intros <;> rfl

theorem peek_setCrc {a : HostAddr} (v : Word) (crc : a.toNat ≠ 0x00C) :
    State.peek { s with regs.crc := v } a = s.peek a := by
  apply peek_congr (crc := fun h => absurd h crc) <;> intros <;> rfl

end Reads

/-! ### The CRC command (R102) -/

theorem exec_crc (s : State) : exec .crc s = .next (s.issue 0x1#4 State.runCrc) := rfl

theorem exec_crc_of_free {s : State} (free : s.busy = false) : exec .crc s = .next s.accept.runCrc := by
  rw [exec_crc, issue_of_free free]

section RunCrc

variable (s : State)

@[simp] theorem runCrc_regs_crc : s.runCrc.regs.crc = crc16 s.txBytes := rfl
@[simp] theorem runCrc_regs_conn : s.runCrc.regs.conn = s.regs.conn := rfl
@[simp] theorem runCrc_bufs : s.runCrc.bufs = s.bufs := rfl
@[simp] theorem runCrc_arb : s.runCrc.arb = s.arb := rfl
@[simp] theorem runCrc_env : s.runCrc.env = s.env := rfl

theorem acceptedAndDone_runCrc {s : State} (accepted : s.Accepted) : s.runCrc.AcceptedAndDone 0x0010#16 :=
  acceptedAndDone_finish (s := { s with regs.crc := crc16 s.txBytes })
    ⟨accepted.late, accepted.ovf, accepted.aborted, accepted.reject⟩ 0x1#4 .ok

theorem peek_runCrc {a : HostAddr} (status : a.toNat ≠ 0x001) (result : a.toNat ≠ 0x002) (crc : a.toNat ≠ 0x00C) :
    s.runCrc.peek a = s.peek a := by
  rw [State.runCrc, peek_finish _ _ _ status result, peek_setCrc s _ crc]

/-- Accepted and run, CRC shows in STATUS, RESULT, REJECT and CRC alone. -/
theorem readsAsIn_accept_runCrc : s.accept.runCrc.readsAsIn s [0x001, 0x002, 0x003, 0x00C] := by
  intro a unchanged
  simp only [List.mem_cons, List.not_mem_nil, or_false, not_or] at unchanged
  obtain ⟨status, result, reject, crc⟩ := unchanged
  rw [peek_runCrc _ status result crc, peek_accept s status reject]

end RunCrc

/-- Settles O10: issue either rejects, or accepts and runs; acceptance leaves TXBUF and TXLEN, so CRC is of the bytes
before it. -/
theorem crcCommandComputesCrc : Obligations.CrcCommandComputesCrc := by
  refine ⟨issuedAs_of_exec_eq_issue rfl exec_crc, fun s free => ⟨_, exec_crc_of_free free, ?_⟩⟩
  have crc : s.accept.runCrc.peek 0x00C#10 = crc16 s.txBytes := by
    rw [peek_crc, runCrc_regs_crc, txBytes_congr (accept_regs_txlen s) rfl rfl]
  exact ⟨crc, acceptedAndDone_runCrc (accepted_accept s), runCrc_regs_conn s.accept, runCrc_bufs s.accept,
    runCrc_arb s.accept, runCrc_env s.accept, readsAsIn_accept_runCrc s⟩

end Sys2Proof.Machine
end

section
/-! PROOFS. NOP (41_frame_codec.md R110), and the request encoders ENCRD and ENCWR (R111, R112) as one encoder with a
function code and an opcode: what the host reads of the frame it stores, and what it leaves. -/

namespace Sys2Proof.Machine

/-! ### NOP (R110) -/

theorem exec_nop (s : State) : exec .nop s = .next s := rfl

/-- A word of R82 is handed over by the decoder as it stands. -/
theorem decode_command_of_illegal {w : Word} (h : isIllegal w = true) : decode (.command w) = .ok (.illegal w) :=
  congrArg Except.ok (decodeCommand_of_illegal h)

/-- Settles O9: OP of 0x0010 is that of NOP, but bits 15:4 are not all 0. -/
theorem nopChangesNothing : Obligations.NopChangesNothing :=
  ⟨rfl, decode_command_of_illegal (w := 0x0010#16) (by decide), exec_nop⟩

/-! ### The frame that `enc_frame` stores (R111) -/

/-- An encoder after acceptance, by its function code and its opcode (R111, R112). -/
def State.runEncode (f : Byte) (op : BitVec 4) (s : State) : State := (s.encFrame f).finish op .ok

theorem exec_encrd (s : State) : exec .encrd s = .next (s.issue 0x2#4 (State.runEncode 0x03#8 0x2#4)) := rfl

theorem exec_encwr (s : State) : exec .encwr s = .next (s.issue 0x3#4 (State.runEncode 0x06#8 0x3#4)) := rfl

section RunEncode

variable (s : State) (f : Byte) (op : BitVec 4)

@[simp] theorem runEncode_regs_conn : (s.runEncode f op).regs.conn = s.regs.conn := rfl
@[simp] theorem runEncode_regs_txlen : (s.runEncode f op).regs.txlen = 8#9 := rfl
@[simp] theorem runEncode_regs_crc :
    (s.runEncode f op).regs.crc = crc16 (header s.regs.slave f s.regs.arg0 s.regs.arg1) := rfl
@[simp] theorem runEncode_arb : (s.runEncode f op).arb = s.arb := rfl
@[simp] theorem runEncode_env : (s.runEncode f op).env = s.env := rfl

/-- Byte i of the frame as the host reads it at TXBUF[i]; completion leaves TXBUF. -/
theorem peek_txbuf_runEncode {i : Nat} (h : i < 8) :
    (s.runEncode f op).peek (BitVec.ofNat 10 (0x100 + i)) =
      (byteAt (shortFrame s.regs.slave f s.regs.arg0 s.regs.arg1) i).setWidth 16 := by
  have kept : (s.runEncode f op).txByte i = (s.encFrame f).txByte i := txByte_congr rfl rfl i
  rw [peek_txbuf _ (by omega), kept, txByte_encFrame, if_pos h]

theorem acceptedAndDone_runEncode {s : State} (accepted : s.Accepted) :
    (s.runEncode f op).AcceptedAndDone (Record.word ⟨op, .ok⟩) :=
  acceptedAndDone_finish (s := s.encFrame f)
    ⟨accepted.late, accepted.ovf, accepted.aborted, accepted.reject⟩ op .ok

/-! ### What an encoder leaves -/

/-- `enc_frame` shows in TXLEN, CRC and TXBUF[0..8) alone. -/
theorem peek_encFrame {a : HostAddr} (txlen : a.toNat ≠ 0x00A) (crc : a.toNat ≠ 0x00C)
    (frame : a.toNat < 0x100 ∨ 0x108 ≤ a.toNat) : (s.encFrame f).peek a = s.peek a := by
  have untouched (i : Nat) (_ : i < 256) (ha : a.toNat = 0x100 + i) : (s.encFrame f).txByte i = s.txByte i := by
    rw [txByte_encFrame, if_neg (by omega)]
  apply peek_congr (txlen := fun h => absurd h txlen) (crc := fun h => absurd h crc) (tx := untouched) <;>
    intros <;> rfl

/-- Accepted and run, an encoder shows in STATUS, RESULT, REJECT, TXLEN, CRC and TXBUF[0..8) alone. -/
theorem readsAsIn_accept_runEncode :
    (s.accept.runEncode f op).readsAsIn s
      [0x001, 0x002, 0x003, 0x00A, 0x00C, 0x100, 0x101, 0x102, 0x103, 0x104, 0x105, 0x106, 0x107] := by
  intro a unchanged
  simp only [List.mem_cons, List.not_mem_nil, or_false, not_or] at unchanged
  obtain ⟨status, result, reject, txlen, crc, frame⟩ := unchanged
  rw [State.runEncode, peek_finish _ _ _ status result, peek_encFrame _ f txlen crc (by omega),
    peek_accept s status reject]

end RunEncode

/-! ### The obligations -/

/-- A command that issues the encoder of function code f under the OP of its own word encodes: acceptance leaves SLAVE,
ARG0 and ARG1, so the frame is that of the operands before it. -/
theorem encodes_of_exec_eq_issue {i : Instr} {w : Word} {f : Byte} (decodes : decode (.command w) = .ok i)
    (runs : ∀ s, exec i s = .next (s.issue (w.extractLsb' 0 4) (State.runEncode f (w.extractLsb' 0 4)))) :
    Claims.Encodes i w f (Record.word ⟨w.extractLsb' 0 4, .ok⟩) := by
  refine ⟨issuedAs_of_exec_eq_issue decodes runs, fun s free => ?_⟩
  generalize w.extractLsb' 0 4 = op at runs ⊢
  have byte (k : Fin 8) := peek_txbuf_runEncode s.accept f op k.isLt
  refine ⟨s.accept.runEncode f op, by rw [runs, issue_of_free free],
    ⟨byte 0, byte 1, byte 2, byte 3, byte 4, byte 5, byte 6, byte 7, runEncode_regs_crc s.accept f op⟩,
    ?txlen, acceptedAndDone_runEncode f op (accepted_accept s), runEncode_regs_conn s.accept f op,
    runEncode_arb s.accept f op, runEncode_env s.accept f op, readsAsIn_accept_runEncode s f op⟩
  case txlen => rw [peek_txlen, runEncode_regs_txlen]; rfl

/-- Settles O11: ENCRD issues the encoder of function 0x03. -/
theorem encrdEncodesReadRequest : Obligations.EncrdEncodesReadRequest := encodes_of_exec_eq_issue rfl exec_encrd

/-- Settles O12: ENCWR issues the encoder of function 0x06. -/
theorem encwrEncodesWriteRequest : Obligations.EncwrEncodesWriteRequest := encodes_of_exec_eq_issue rfl exec_encwr

end Sys2Proof.Machine
end

section
/-! PROOFS. What the phases make of the events that are none of their own: a byte on the line in GUARD and IDLE, a write
error, and the events with no effect (42_transaction.md R139, R141, R143, R149, R150). -/

namespace Sys2Proof.Machine

section ByPhase

variable {s : State}

/-! ### One event by the phase it meets (R139) -/

theorem onTick_of_idle (h : s.arb.phase = .idle) : s.onTick = s := by simp only [State.onTick, h]

theorem onTick_of_guard (h : s.arb.phase = .guard) : s.onTick = s.tickGuard := by simp only [State.onTick, h]

theorem onTick_of_tx (h : s.arb.phase = .tx) : s.onTick = s := by simp only [State.onTick, h]

theorem onTick_of_accum (h : s.arb.phase = .accum) : s.onTick = s.tickAccum := by simp only [State.onTick, h]

theorem onRxByte_of_idle (h : s.arb.phase = .idle) (b : Byte) : s.onRxByte b = s.rxDiscard := by
  simp only [State.onRxByte, h]

theorem onRxByte_of_guard (h : s.arb.phase = .guard) (b : Byte) : s.onRxByte b = s.rxDiscard := by
  simp only [State.onRxByte, h]

theorem onTxError_of_tx (h : s.arb.phase = .tx) : s.onTxError = s.endXact .writeFailed := by
  simp only [State.onTxError, h]

theorem onTxError_of_ne_tx (h : s.arb.phase ≠ .tx) : s.onTxError = s := by
  unfold State.onTxError
  split
  case h_1 tx => exact absurd tx h
  all_goals rfl

theorem onTxTake_of_ne_tx (h : s.arb.phase ≠ .tx) : s.onTxTake = s := by
  unfold State.onTxTake
  split
  case h_1 tx => exact absurd tx h
  all_goals rfl

end ByPhase

/-! ### The obligations -/

/-- Settles O33: both phases hand the byte to `rxDiscard`. -/
theorem lateByteIsDiscarded : Obligations.LateByteIsDiscarded := by
  intro s b phase
  rcases phase with guard | idle
  · exact onRxByte_of_guard guard b
  · exact onRxByte_of_idle idle b

/-- Settles O39: `end_xact` with WriteFailed; CONN is none of what it writes. -/
theorem writeErrorEndsTransaction : Obligations.WriteErrorEndsTransaction := fun _ tx => onTxError_of_tx tx

/-- Settles O40, event by event. -/
theorem eventsWithoutEffect : Obligations.EventsWithoutEffect := by
  refine fun s => ⟨fun phase => ?tick, fun notTx => ⟨onTxTake_of_ne_tx notTx, onTxError_of_ne_tx notTx⟩⟩
  rcases phase with idle | tx
  · exact onTick_of_idle idle
  · exact onTick_of_tx tx

end Sys2Proof.Machine
end

section
/-! PROOFS. How a transaction ends: ABORT (42_transaction.md R153), `complete_xact` (R138), and the check of a RAW burst
(R154). -/

namespace Sys2Proof.Machine

/-! ### ABORT (R153) -/

theorem exec_abort (s : State) : exec .abort s = .next s.runAbort := rfl

theorem runAbort_of_none {s : State} (h : s.arb.xop = .none) : s.runAbort = s := if_pos h

/-- The state in which an ABORT ends the transaction in flight. -/
def State.markAborted (s : State) : State := { s with regs.aborted := true, regs.nregs := 0#7 }

theorem runAbort_of_inFlight {s : State} (h : s.arb.xop ≠ .none) :
    s.runAbort = s.markAborted.endXact .responseTimeout := if_neg h

section Ending

variable (s : State)

/-- The abort marks show in STATUS and NREGS alone. -/
theorem peek_markAborted {a : HostAddr} (status : a.toNat ≠ 0x001) (nregs : a.toNat ≠ 0x00E) :
    s.markAborted.peek a = s.peek a := by
  apply peek_congr (status := fun h => absurd h status) (nregs := fun h => absurd h nregs) <;> intros <;> rfl

/-- The end of a transaction shows in STATUS and RESULT alone. -/
theorem peek_endXact {a : HostAddr} (c : Code) (status : a.toNat ≠ 0x001) (result : a.toNat ≠ 0x002) :
    (s.endXact c).peek a = s.peek a := by
  apply peek_congr (status := fun h => absurd h status) (result := fun h => absurd h result) <;> intros <;> rfl

theorem readsAsIn_markAborted_endXact (c : Code) :
    (s.markAborted.endXact c).readsAsIn s [0x001, 0x002, 0x00E] := by
  intro a unchanged
  simp only [List.mem_cons, List.not_mem_nil, or_false, not_or] at unchanged
  obtain ⟨status, result, nregs⟩ := unchanged
  rw [peek_endXact _ c status result, peek_markAborted s status nregs]

/-! ### `complete_xact` (R138) -/

@[simp] theorem completeXact_arb : s.completeXact.arb = s.arb.ended := by
  rw [completeXact_eq]
  split
  · rfl
  · exact congrArg Arbiter.ended (burstCheck_arb s s.rxBytes)

@[simp] theorem busy_completeXact : s.completeXact.busy = false := by
  rw [completeXact_eq]
  split
  · exact busy_endXact s _
  · exact busy_endXact _ _

@[simp] theorem completeXact_regs_done : s.completeXact.regs.done = true := by
  rw [completeXact_eq]
  split <;> rfl

@[simp] theorem completeXact_regs_result_op : s.completeXact.regs.result.op = s.arb.xop.op := by
  rw [completeXact_eq]
  split
  · rfl
  · rw [endXact_regs_result, burstCheck_arb]

@[simp] theorem completeXact_regs_conn : s.completeXact.regs.conn = s.regs.conn := by
  rw [completeXact_eq]
  split
  · rfl
  · rw [endXact_regs_conn, burstCheck_regs_conn]

/-- The checks of a burst read it and leave it. -/
@[simp] theorem rxBytes_completeXact : s.completeXact.rxBytes = s.rxBytes := by
  rw [completeXact_eq]
  split
  · rfl
  · apply rxBytes_congr <;> simp

end Ending

/-! ### The check of a RAW's burst (R154) -/

theorem completeXact_of_raw {s : State} (raw : s.arb.xop = .raw) (fits : s.regs.ovf = false) :
    s.completeXact = s.endXact (checkRaw s.rxBytes) := by
  have check : s.burstCheck s.rxBytes = (checkRaw s.rxBytes, s) := by simp only [State.burstCheck, raw]
  rw [completeXact_eq, fits, if_neg Bool.false_ne_true, check]

theorem checkRaw_eq (bs : List Byte) :
    checkRaw bs = if bs.length < 5 then .malformedFrame else if crcOk bs = false then .crcMismatch else .ok := by
  simp only [checkRaw, Bool.not_eq_true']

/-! ### The obligations -/

/-- Settles O24: with a transaction in flight, ABORT marks the state and ends the transaction. -/
theorem abortCancels : Obligations.AbortCancels := by
  refine ⟨rfl, fun s => ⟨s.runAbort, exec_abort s, ?_⟩⟩
  split
  case isTrue noXact => exact runAbort_of_none noXact
  case isFalse inFlight =>
    rw [runAbort_of_inFlight inFlight]
    exact ⟨rfl, rfl, rfl, rfl, readsAsIn_markAborted_endXact s .responseTimeout⟩

/-- Settles O47: the check of a RAW gives a code and changes no state, so `end_xact` alone writes. -/
theorem rawChecksLengthAndCrc : Obligations.RawChecksLengthAndCrc := by
  intro s raw fits
  rw [completeXact_of_raw raw fits, checkRaw_eq]
  refine ⟨?regs, endXact_bufs s _⟩
  have op : s.arb.xop.op = 0x9#4 := congrArg XOp.op raw
  rw [← op]
  rfl

end Sys2Proof.Machine
end

section
/-! PROOFS. A timer of the phase machine run down by `tick` events: the guard time (42_transaction.md R140) and the gap
that ends a burst (R148). -/

namespace Sys2Proof.Machine

/-! ### Any timer -/

/-- The last of n + 1 ticks meets the state after the first n. -/
theorem tickMany_succ_eq_onTick (n : Nat) (s : State) : State.tickMany (n + 1) s = (State.tickMany n s).onTick := by
  induction n generalizing s with
  | zero => rfl
  | succ n ih => exact ih s.onTick

theorem toNat_sub_ofNat {w : Nat} {c : BitVec w} {m : Nat} (h : m ≤ c.toNat) :
    (c - BitVec.ofNat w m).toNat = c.toNat - m := by
  have small : (BitVec.ofNat w m).toNat = m := Nat.mod_eq_of_lt (h.trans_lt c.isLt)
  rw [BitVec.toNat_sub_of_le (by rwa [BitVec.le_def, small]), small]

theorem sub_one_ne_zero_of_one_lt {w : Nat} {c : BitVec w} (h : 1 < c.toNat) : c - 1#w ≠ 0#w := by
  intro zero
  have left : (c - 1#w).toNat = c.toNat - 1 := toNat_sub_ofNat h.le
  rw [zero, BitVec.toNat_ofNat, Nat.zero_mod] at left
  omega

section Timer

variable {w : Nat} {timer : BitVec w → State}
  (runs : ∀ c : BitVec w, 1 < c.toNat → (timer c).onTick = timer (c - 1#w))
include runs

/-- A timer that a tick counts down while more than 1 is left has counted m after any m ticks less than it holds. -/
theorem tickMany_timer (c : BitVec w) {m : Nat} (h : m < c.toNat) :
    State.tickMany m (timer c) = timer (c - BitVec.ofNat w m) := by
  induction m with
  | zero => simp [State.tickMany]
  | succ m ih =>
    have left : 1 < (c - BitVec.ofNat w m).toNat := by rw [toNat_sub_ofNat (by omega)]; omega
    rw [tickMany_succ_eq_onTick, ih (by omega), runs _ left, BitVec.sub_sub, ← BitVec.ofNat_add]

/-- The tick that ends such a timer is the one that meets it at 1. -/
theorem tickMany_timer_expires {c : BitVec w} (h : c ≠ 0#w) :
    State.tickMany c.toNat (timer c) = (timer 1#w).onTick := by
  obtain ⟨m, hm⟩ : ∃ m, c.toNat = m + 1 := Nat.exists_eq_succ_of_ne_zero (by simpa [BitVec.toNat_eq] using h)
  have last : c - BitVec.ofNat w m = 1#w := by
    have fits := c.isLt
    apply BitVec.eq_of_toNat_eq
    rw [toNat_sub_ofNat (by omega), BitVec.toNat_ofNat, Nat.mod_eq_of_lt (by omega)]
    omega
  rw [hm, tickMany_succ_eq_onTick, tickMany_timer runs c (by omega), last]

end Timer

section GuardAndGap

variable {s : State}

/-! ### The guard timer (R140) -/

/-- The state with `c` ticks of guard time left. -/
def State.withGcnt (s : State) (c : Byte) : State := { s with arb.gcnt := c }

theorem tickGuard_withGcnt (c : Byte) :
    (s.withGcnt c).tickGuard = if c - 1#8 = 0#8 then (s.withGcnt (c - 1#8)).enterTx else s.withGcnt (c - 1#8) := rfl

theorem onTick_withGcnt (guard : s.arb.phase = .guard) (c : Byte) (h : 1 < c.toNat) :
    (s.withGcnt c).onTick = s.withGcnt (c - 1#8) := by
  rw [onTick_of_guard (s := s.withGcnt c) guard, tickGuard_withGcnt, if_neg (sub_one_ne_zero_of_one_lt h)]

theorem onTick_withGcnt_one (guard : s.arb.phase = .guard) : (s.withGcnt 1#8).onTick = (s.withGcnt 0#8).enterTx := by
  rw [onTick_of_guard (s := s.withGcnt 1#8) guard, tickGuard_withGcnt, BitVec.sub_self, if_pos rfl]

/-! ### The gap timer (R148) -/

/-- The state with `c` ticks of the gap left. -/
def State.withGapcnt (s : State) (c : Byte) : State := { s with arb.gapcnt := c }

theorem tickAccum_withGapcnt (c : Byte) :
    (s.withGapcnt c).tickAccum =
      if c - 1#8 = 0#8 then (s.withGapcnt (c - 1#8)).completeXact else s.withGapcnt (c - 1#8) := rfl

theorem onTick_withGapcnt (accum : s.arb.phase = .accum) (c : Byte) (h : 1 < c.toNat) :
    (s.withGapcnt c).onTick = s.withGapcnt (c - 1#8) := by
  rw [onTick_of_accum (s := s.withGapcnt c) accum, tickAccum_withGapcnt, if_neg (sub_one_ne_zero_of_one_lt h)]

theorem onTick_withGapcnt_one (accum : s.arb.phase = .accum) :
    (s.withGapcnt 1#8).onTick = (s.withGapcnt 0#8).completeXact := by
  rw [onTick_of_accum (s := s.withGapcnt 1#8) accum, tickAccum_withGapcnt, BitVec.sub_self, if_pos rfl]

end GuardAndGap

/-! ### The obligations -/

/-- Settles O30: GCNT is a timer, and the tick that ends it enters TX. -/
theorem guardEndsAtItsTick : Obligations.GuardEndsAtItsTick := by
  intro s guard running
  have runs := onTick_withGcnt guard
  exact ⟨fun m h => tickMany_timer runs s.arb.gcnt h,
    (tickMany_timer_expires runs running).trans (onTick_withGcnt_one guard)⟩

/-- Settles O32: GAPCNT is a timer, and the tick that ends it completes the transaction. -/
theorem gapEndsTheBurst : Obligations.GapEndsTheBurst := by
  intro s accum running
  have runs := onTick_withGapcnt accum
  have expires : State.tickMany s.arb.gapcnt.toNat s = (s.withGapcnt 0#8).completeXact :=
    (tickMany_timer_expires runs running).trans (onTick_withGapcnt_one accum)
  refine ⟨fun m h => tickMany_timer runs s.arb.gapcnt h, ?_⟩
  dsimp only
  rw [expires]
  exact ⟨rfl, busy_completeXact _, completeXact_arb _, completeXact_regs_done _, completeXact_regs_result_op _,
    rxBytes_completeXact _, completeXact_regs_conn _⟩

end Sys2Proof.Machine
end

section
/-! PROOFS. The order of the events of one clock (60_exceptions.md R178), and the issue of a command word as a whole:
what the step of a CMD write does, case by case (R172, R174, R175). -/

namespace Sys2Proof.Machine

/-! ### The first event of a clock (R178) -/

/-- A clock that is not empty has a first event: it is of least rank, and the rest is what is left of the clock. -/
theorem firstEvent_least {c : List Event} (h : c ≠ []) :
    ∃ e rest, firstEvent c = some (e, rest) ∧ (e :: rest).Perm c ∧ ∀ x ∈ rest, e.rank ≤ x.rank := by
  induction c with
  | nil => exact absurd rfl h
  | cons e es ih =>
    by_cases last : es = []
    · subst last
      exact ⟨e, [], rfl, .refl _, by simp⟩
    obtain ⟨m, rest, found, perm, least⟩ := ih last
    by_cases before : e.rank ≤ m.rank
    · refine ⟨e, es, by simp [firstEvent, found, before], .refl _, fun x hx => before.trans ?_⟩
      rcases List.mem_cons.1 (perm.mem_iff.2 hx) with rfl | inRest
      · exact le_rfl
      · exact least x inRest
    · refine ⟨m, e :: rest, by simp [firstEvent, found, before], (List.Perm.swap e m rest).trans (perm.cons e), ?_⟩
      exact List.forall_mem_cons.2 ⟨(not_le.1 before).le, least⟩

theorem nextEvent_cons_of_firstEvent {c rest : List Event} {e : Event} (found : firstEvent c = some (e, rest))
    (cs : List (List Event)) : nextEvent (c :: cs) = some (e, rest :: cs) := by
  simp [nextEvent, found]

/-- Settles O51: the ranks are numbers in R178's order, and a clock yields an event of least rank. -/
theorem clockOrderIsKept : Obligations.ClockOrderIsKept := by
  refine ⟨by simp [Event.rank], fun c cs nonempty => ?_⟩
  obtain ⟨e, rest, found, perm, least⟩ := firstEvent_least nonempty
  exact ⟨e, rest, nextEvent_cons_of_firstEvent found cs, perm, least⟩

/-! ### What keeps the flags of acceptance (R175) -/

section Accepted

variable {s : State} (accepted : s.Accepted)

include accepted

theorem accepted_finish (op : BitVec 4) (c : Code) : (s.finish op c).Accepted :=
  (acceptedAndDone_finish accepted op c).toAccepted

theorem accepted_encFrame (f : Byte) : (s.encFrame f).Accepted :=
  ⟨accepted.late, accepted.ovf, accepted.aborted, accepted.reject⟩

theorem accepted_phyOpen (p : Word) : (s.phyOpen p).Accepted :=
  ⟨accepted.late, accepted.ovf, accepted.aborted, accepted.reject⟩

theorem accepted_decodeResponse (bs : List Byte) : (s.decodeResponse bs).2.Accepted :=
  ⟨by simp [accepted.late], by simp [accepted.ovf], by simp [accepted.aborted], by simp [accepted.reject]⟩

theorem accepted_startXact (op : XOp) : (s.startXact op).Accepted :=
  ⟨by simp [accepted.late], by simp [accepted.ovf], by simp [accepted.aborted], by simp [accepted.reject]⟩

end Accepted

/-! ### The commands that go through `issue` (R172) -/

/-- The instruction is issued under the opcode `op`, and what runs after acceptance keeps its flags. -/
def IssuedUnder (i : Instr) (op : BitVec 4) : Prop :=
  ∃ run, (∀ s, exec i s = .next (s.issue op run)) ∧ ∀ s : State, s.Accepted → (run s).Accepted

theorem issuedUnder_crc : IssuedUnder .crc 0x1#4 :=
  ⟨_, exec_crc, fun _ accepted => (acceptedAndDone_runCrc accepted).toAccepted⟩

theorem issuedUnder_encrd : IssuedUnder .encrd 0x2#4 :=
  ⟨_, exec_encrd, fun _ accepted => (acceptedAndDone_runEncode 0x03#8 0x2#4 accepted).toAccepted⟩

theorem issuedUnder_encwr : IssuedUnder .encwr 0x3#4 :=
  ⟨_, exec_encwr, fun _ accepted => (acceptedAndDone_runEncode 0x06#8 0x3#4 accepted).toAccepted⟩

theorem issuedUnder_decode : IssuedUnder .decode 0x4#4 :=
  ⟨State.runDecode, fun _ => rfl, fun s accepted => accepted_finish (accepted_decodeResponse accepted s.rxBytes) _ _⟩

theorem issuedUnder_openPort : IssuedUnder .openPort 0x5#4 := by
  refine ⟨State.runOpen, fun _ => rfl, fun s accepted => ?_⟩
  unfold State.runOpen
  dsimp only
  split_ifs
  · exact accepted_finish accepted _ _
  · apply accepted_finish
    exact ⟨accepted.late, accepted.ovf, accepted.aborted, accepted.reject⟩
  · exact accepted_finish (accepted_phyOpen accepted s.regs.arg0) _ _

theorem issuedUnder_closePort : IssuedUnder .closePort 0x6#4 := by
  refine ⟨State.runClose, fun _ => rfl, fun s accepted => accepted_finish ?_ _ _⟩
  split_ifs
  · exact ⟨accepted.late, accepted.ovf, accepted.aborted, accepted.reject⟩
  · exact accepted

theorem issuedUnder_read : IssuedUnder .read 0x7#4 := by
  refine ⟨State.runRead, fun _ => rfl, fun s accepted => ?_⟩
  unfold State.runRead
  split_ifs
  · exact accepted_finish accepted _ _
  · exact accepted_finish accepted _ _
  · exact accepted_startXact (accepted_encFrame accepted _) _

theorem issuedUnder_write : IssuedUnder .write 0x8#4 := by
  refine ⟨State.runWrite, fun _ => rfl, fun s accepted => ?_⟩
  unfold State.runWrite
  split_ifs
  · exact accepted_finish accepted _ _
  · exact accepted_startXact (accepted_encFrame accepted _) _

theorem issuedUnder_raw : IssuedUnder .raw 0x9#4 := by
  refine ⟨State.runRaw, fun _ => rfl, fun s accepted => ?_⟩
  unfold State.runRaw
  split_ifs
  · exact accepted_finish accepted _ _
  · exact accepted_finish accepted _ _
  · exact accepted_startXact accepted _

/-! ### A command word by its opcode (30_encoding.md R81) -/

/-- A word that is not illegal is its own opcode. -/
theorem eq_setWidth_opOf_of_legal {w : Word} (legal : isIllegal w = false) : w = (opOf w).setWidth 16 := by
  have small := toNat_lt_of_legal legal
  apply BitVec.eq_of_toNat_eq
  simp only [opOf, BitVec.toNat_setWidth, BitVec.extractLsb'_toNat, Nat.shiftRight_zero]
  omega

theorem decodeCommand_of_abort {w : Word} (legal : isIllegal w = false) (abort : opOf w = 0xA#4) :
    decodeCommand w = .abort := by
  rw [eq_setWidth_opOf_of_legal legal, abort]
  rfl

/-- Every command but NOP and ABORT is issued under the OP of its own word. -/
theorem issuedUnder_decodeCommand {w : Word} (legal : isIllegal w = false) (notNop : w ≠ 0x0000#16)
    (notAbort : opOf w ≠ 0xA#4) : IssuedUnder (decodeCommand w) (opOf w) := by
  obtain ⟨n, small, rfl⟩ : ∃ n < 0xB, w = BitVec.ofNat 16 n := ⟨w.toNat, toNat_lt_of_legal legal, by simp⟩
  interval_cases n
  · exact absurd rfl notNop
  · exact issuedUnder_crc
  · exact issuedUnder_encrd
  · exact issuedUnder_encwr
  · exact issuedUnder_decode
  · exact issuedUnder_openPort
  · exact issuedUnder_closePort
  · exact issuedUnder_read
  · exact issuedUnder_write
  · exact issuedUnder_raw
  · exact absurd rfl notAbort

/-- Settles O25: the step runs the command of the word, which R172's chain takes apart by the word and by BUSY. -/
theorem commandIssue : Obligations.CommandIssue := by
  intro s w cs presented u op
  have runs : step s = exec (decodeCommand w) u := step_of_instr presented rfl
  split_ifs with nop illegal abort busy
  · rw [runs, nop]
    exact exec_nop u
  · rw [runs, decodeCommand_of_illegal ((isIllegal_iff w).2 illegal)]
    exact exec_illegal w u
  all_goals have legal : isIllegal w = false := Bool.eq_false_iff.2 (mt (isIllegal_iff w).1 illegal)
  · rw [runs, decodeCommand_of_abort legal abort]
  all_goals obtain ⟨run, issues, keeps⟩ := issuedUnder_decodeCommand legal nop abort
  · rw [runs, issues, issue_of_busy (s := u) busy]
    rfl
  · have free : u.busy = false := Bool.eq_false_iff.2 busy
    exact ⟨runs, run u.accept, by rw [runs, issues, issue_of_free free], keeps _ (accepted_accept u)⟩

end Sys2Proof.Machine
end

section
/-! PROOFS. Decoding and encoding undo each other (30_encoding.md R80 to R91): which frames each direction's decoder
reads, that a frame that passes its checks is the layout of what is read from it, and the command words. -/

namespace Sys2Proof.Machine

/-! ### A sequence that passes its CRC (40_crc16.md R103, R104) -/

/-- The bytes before a trailing CRC. -/
def body (bs : List Byte) : List Byte := bs.take (bs.length - 2)

/-- A sequence that passes the check ends with the CRC of the rest. -/
theorem eq_withCrc_body {bs : List Byte} (long : 2 ≤ bs.length) (passes : crcOk bs = true) : bs = withCrc (body bs) := by
  obtain ⟨front, lo, hi, rfl⟩ : ∃ front lo hi, bs = front ++ [lo, hi] := by
    have split : bs.drop (bs.length - 2) = [bs[bs.length - 2], bs[bs.length - 1]] := by
      apply List.ext_getElem <;> grind
    exact ⟨_, _, _, by rw [← split, List.take_append_drop]⟩
  have front_eq : body (front ++ [lo, hi]) = front := by simp [body]
  have crc : crc16 front = be16 hi lo := by
    have last := byteAt_append_right front [lo, hi] 1
    have beforeLast := byteAt_append_right front [lo, hi] 0
    rw [Nat.add_zero] at beforeLast
    have passes' := eq_of_beq passes
    simp only [List.length_append, List.length_cons, List.length_nil, Nat.zero_add, Nat.reduceAdd,
      Nat.add_sub_cancel, List.take_left', Nat.reduceSubDiff] at passes'
    rw [last, beforeLast] at passes'
    exact passes'.symm
  rw [front_eq, withCrc, crc, hi8_be16, lo8_be16]

/-! ### The frame layouts (R84 to R87) -/

@[simp] theorem crcOk_shortFrame (a f : Byte) (x y : Word) : crcOk (shortFrame a f x y) = true := crcOk_withCrc _

@[simp] theorem crcOk_readResponse (a : Byte) (ws : List Word) : crcOk (readResponse a ws) = true := crcOk_withCrc _

section ShortFrame

variable (a f : Byte) (x y : Word)

@[simp] theorem byteAt_shortFrame_slave : byteAt (shortFrame a f x y) 0 = a := rfl
@[simp] theorem byteAt_shortFrame_func : byteAt (shortFrame a f x y) 1 = f := rfl

@[simp] theorem be16_shortFrame_first : be16 (byteAt (shortFrame a f x y) 2) (byteAt (shortFrame a f x y) 3) = x :=
  be16_hi8_lo8 x

@[simp] theorem be16_shortFrame_second : be16 (byteAt (shortFrame a f x y) 4) (byteAt (shortFrame a f x y) 5) = y :=
  be16_hi8_lo8 y

end ShortFrame

/-- A sequence of 8 bytes that passes its CRC is the short frame of its own fields. -/
theorem eq_shortFrame {bs : List Byte} (length : bs.length = 8) (passes : crcOk bs = true) :
    bs = shortFrame (byteAt bs 0) (byteAt bs 1) (be16 (byteAt bs 2) (byteAt bs 3)) (be16 (byteAt bs 4) (byteAt bs 5)) := by
  have fields : body bs =
      header (byteAt bs 0) (byteAt bs 1) (be16 (byteAt bs 2) (byteAt bs 3)) (be16 (byteAt bs 4) (byteAt bs 5)) := by
    obtain ⟨b0, b1, b2, b3, b4, b5, b6, b7, rfl⟩ : ∃ b0 b1 b2 b3 b4 b5 b6 b7, bs = [b0, b1, b2, b3, b4, b5, b6, b7] := by
      match bs, length with
      | [b0, b1, b2, b3, b4, b5, b6, b7], _ => exact ⟨b0, b1, b2, b3, b4, b5, b6, b7, rfl⟩
    simp [body, header]
  rw [shortFrame, ← fields]
  exact eq_withCrc_body (by omega) passes

section ReadResponse

variable (a : Byte) (ws : List Word)

@[simp] theorem byteAt_readResponse_slave : byteAt (readResponse a ws) 0 = a := rfl
@[simp] theorem byteAt_readResponse_func : byteAt (readResponse a ws) 1 = 0x03#8 := rfl
@[simp] theorem byteAt_readResponse_count : byteAt (readResponse a ws) 2 = BitVec.ofNat 8 (2 * ws.length) := rfl

/-- The byte count of a response that fits a frame is twice the number of its registers. -/
theorem toNat_readResponse_count {ws : List Word} (fits : ws.length ≤ 125) :
    (BitVec.ofNat 8 (2 * ws.length)).toNat = 2 * ws.length := by
  rw [BitVec.toNat_ofNat]
  omega

theorem responseWord_readResponse {k : Nat} (h : k < ws.length) : responseWord (readResponse a ws) k = ws[k] :=
  responseWord_wordBytes a 0x03#8 (BitVec.ofNat 8 (2 * ws.length)) ws _ h

/-- The words read from a response are its registers, in order. -/
theorem map_responseWord_readResponse : (List.range ws.length).map (responseWord (readResponse a ws)) = ws := by
  apply List.ext_getElem
  · simp
  · intro k _ h
    simp [responseWord_readResponse a ws h]

end ReadResponse

/-- An even number of bytes is the bytes of the words it holds. -/
theorem wordBytes_of_pairs {n : Nat} {data : List Byte} (length : data.length = 2 * n) :
    wordBytes ((List.range n).map fun k => be16 (byteAt data (2 * k)) (byteAt data (2 * k + 1))) = data := by
  induction n generalizing data with
  | zero => simpa [wordBytes] using length
  | succ n ih =>
    match data, length with
    | x :: y :: data, length =>
      have rest := ih (data := data) (by simp only [List.length_cons] at length; omega)
      simp only [List.range_succ_eq_map, List.map_cons, List.map_map, wordBytes, Nat.mul_zero, byteAt_cons_zero,
        byteAt_cons_succ, hi8_be16, lo8_be16]
      exact congrArg (x :: y :: ·) rest

/-- Register k read from a response depends on the bytes between the byte count and the CRC. -/
theorem responseWord_of_data (a f c : Byte) {n k : Nat} {data : List Byte} (rest : List Byte)
    (length : data.length = 2 * n) (h : k < n) :
    responseWord (a :: f :: c :: (data ++ rest)) k = be16 (byteAt data (2 * k)) (byteAt data (2 * k + 1)) := by
  have high : 3 + 2 * k = 2 * k + 1 + 1 + 1 := by omega
  have low : 4 + 2 * k = 2 * k + 1 + 1 + 1 + 1 := by omega
  simp only [responseWord, high, low, byteAt_cons_succ]
  rw [byteAt_append_left data rest (by omega), byteAt_append_left data rest (by omega)]

/-- A sequence of the length its even byte count gives, with function 0x03, that passes its CRC is the response of the
words read from it (R85, R115). -/
theorem eq_readResponse {bs : List Byte} (length : bs.length = (byteAt bs 2).toNat + 5)
    (even : (byteAt bs 2).toNat % 2 = 0) (passes : crcOk bs = true) (func : byteAt bs 1 = 0x03#8) :
    bs = readResponse (byteAt bs 0) ((List.range ((byteAt bs 2).toNat / 2)).map (responseWord bs)) := by
  obtain ⟨front, rfl⟩ : ∃ front, bs = withCrc front := ⟨_, eq_withCrc_body (by omega) passes⟩
  obtain ⟨a, f, c, data, rfl⟩ : ∃ a f c data, front = a :: f :: c :: data := by
    match front, length with
    | a :: f :: c :: data, _ => exact ⟨a, f, c, data, rfl⟩
    | [], h | [_], h | [_, _], h => simp at h
  obtain rfl : f = 0x03#8 := func
  have count_eq : byteAt (withCrc (a :: 0x03#8 :: c :: data)) 2 = c := rfl
  rw [count_eq] at length even ⊢
  obtain ⟨n, count⟩ : ∃ n, c.toNat = 2 * n := even_iff_exists_two_mul.1 (Nat.even_iff.2 even)
  have dataLength : data.length = 2 * n := by rw [← count]; simpa using length
  have words : (List.range n).map (responseWord (withCrc (a :: 0x03#8 :: c :: data))) =
      (List.range n).map fun k => be16 (byteAt data (2 * k)) (byteAt data (2 * k + 1)) :=
    List.map_congr_left fun k h => responseWord_of_data a 0x03#8 c _ dataLength (List.mem_range.1 h)
  have countByte : BitVec.ofNat 8 (2 * n) = c := by rw [← count, BitVec.ofNat_toNat, BitVec.setWidth_eq]
  rw [count, Nat.mul_div_cancel_left n two_pos, words, readResponse, wordBytes_of_pairs dataLength, List.length_map,
    List.length_range, countByte]
  rfl

/-! ### The frame decoders (R90, R91, R104) -/

theorem frameCheck_eq_none_iff {bs : List Byte} :
    frameCheck bs = none ↔ 5 ≤ bs.length ∧ bs.length ≤ 256 ∧ crcOk bs = true := by
  unfold frameCheck Config.minFrame Config.maxFrame
  split_ifs with short long wrong
  · simp [short]
  · simp [long]
  · simpa using fun _ _ => wrong
  · exact iff_of_true rfl ⟨not_lt.1 short, not_lt.1 long, by simpa using wrong⟩

theorem frameCheck_shortFrame (a f : Byte) (x y : Word) : frameCheck (shortFrame a f x y) = none :=
  frameCheck_eq_none_iff.2 ⟨by simp, by simp, crcOk_shortFrame a f x y⟩

theorem frameCheck_readResponse (a : Byte) {ws : List Word} (fits : ws.length ≤ 125) :
    frameCheck (readResponse a ws) = none :=
  frameCheck_eq_none_iff.2 ⟨by simp, by simp only [length_readResponse]; omega, crcOk_readResponse a ws⟩

/-- The requests the frame decoder reads are the 8-byte frames of R84 and R86. -/
theorem decodeRequest_eq_ok_iff {bs : List Byte} {i : Instr} :
    decodeRequest bs = .ok i ↔ ∃ a x y,
      bs = shortFrame a 0x03#8 x y ∧ i = .rdreq a x y ∨ bs = shortFrame a 0x06#8 x y ∧ i = .wrreq a x y := by
  constructor
  case mpr =>
    rintro ⟨a, x, y, ⟨rfl, rfl⟩ | ⟨rfl, rfl⟩⟩
    · simp [decodeRequest, frameCheck_shortFrame]
    · simp [decodeRequest, frameCheck_shortFrame]
  case mp =>
    intro read
    cases check : frameCheck bs with
    | some e => simp [decodeRequest, check] at read
    | none =>
      obtain ⟨-, -, passes⟩ := frameCheck_eq_none_iff.1 check
      simp only [decodeRequest, check] at read
      refine ⟨byteAt bs 0, be16 (byteAt bs 2) (byteAt bs 3), be16 (byteAt bs 4) (byteAt bs 5), ?_⟩
      split_ifs at read with func length func' length'
      · have layout := eq_shortFrame length passes
        rw [func] at layout
        exact .inl ⟨layout, (Except.ok.inj read).symm⟩
      · have layout := eq_shortFrame length' passes
        rw [func'] at layout
        exact .inr ⟨layout, (Except.ok.inj read).symm⟩

/-- The responses the frame decoder reads are the frames of R85, of up to 125 registers, and of R87. -/
theorem decodeResponse_eq_ok_iff {bs : List Byte} {i : Instr} :
    Sys2Proof.decodeResponse bs = .ok i ↔
      (∃ a ws, ws.length ≤ 125 ∧ bs = readResponse a ws ∧ i = .rdrsp a ws) ∨
        ∃ a x y, bs = shortFrame a 0x06#8 x y ∧ i = .wrrsp a x y := by
  constructor
  case mpr =>
    rintro (⟨a, ws, fits, rfl, rfl⟩ | ⟨a, x, y, rfl, rfl⟩)
    · have half : 2 * ws.length / 2 = ws.length := Nat.mul_div_cancel_left _ two_pos
      simp [Sys2Proof.decodeResponse, frameCheck_readResponse a fits, toNat_readResponse_count fits, half,
        map_responseWord_readResponse, -BitVec.toNat_ofNat]
    · simp [Sys2Proof.decodeResponse, frameCheck_shortFrame]
  case mp =>
    intro read
    cases check : frameCheck bs with
    | some e => simp [Sys2Proof.decodeResponse, check] at read
    | none =>
      obtain ⟨-, short, passes⟩ := frameCheck_eq_none_iff.1 check
      simp only [Sys2Proof.decodeResponse, check] at read
      split_ifs at read with func length odd func' length'
      · have layout := eq_readResponse (not_not.1 length) (by omega) passes func
        refine .inl ⟨_, _, ?_, layout, (Except.ok.inj read).symm⟩
        rw [List.length_map, List.length_range]
        omega
      · have layout := eq_shortFrame length' passes
        rw [func'] at layout
        exact .inr ⟨_, _, _, layout, (Except.ok.inj read).symm⟩

/-! ### The obligations -/

/-- Settles O1: the decoders read back each layout, and a command word its command. -/
theorem decodeOfEncode : Obligations.DecodeOfEncode := by
  intro i wf
  cases i with
  | illegal w => exact decode_command_of_illegal wf
  | rdreq a x y => exact decodeRequest_eq_ok_iff.2 ⟨a, x, y, .inl ⟨rfl, rfl⟩⟩
  | wrreq a x y => exact decodeRequest_eq_ok_iff.2 ⟨a, x, y, .inr ⟨rfl, rfl⟩⟩
  | rdrsp a ws => exact decodeResponse_eq_ok_iff.2 (.inl ⟨a, ws, (wf_rdrsp_iff a ws).1 wf, rfl, rfl⟩)
  | wrrsp a x y => exact decodeResponse_eq_ok_iff.2 (.inr ⟨a, x, y, rfl, rfl⟩)
  | _ => rfl

/-- A word of CMD is the encoding of its command: illegal, or one of the eleven of R81. -/
theorem encode_decodeCommand (w : Word) : encode (decodeCommand w) = .command w ∧ (decodeCommand w).wf = true := by
  cases legal : isIllegal w with
  | true => rw [decodeCommand_of_illegal legal]; exact ⟨rfl, legal⟩
  | false =>
    obtain ⟨n, small, rfl⟩ : ∃ n < 0xB, w = BitVec.ofNat 16 n := ⟨w.toNat, toNat_lt_of_legal legal, by simp⟩
    interval_cases n <;> exact ⟨rfl, rfl⟩

/-- Settles O2: what a decoder reads it reads from the layout of the instruction. -/
theorem encodeOfDecode : Obligations.EncodeOfDecode := by
  intro p i read
  cases p with
  | command w =>
    obtain rfl : decodeCommand w = i := Except.ok.inj read
    exact encode_decodeCommand w
  | request bs =>
    obtain ⟨a, x, y, ⟨rfl, rfl⟩ | ⟨rfl, rfl⟩⟩ := decodeRequest_eq_ok_iff.1 read <;> exact ⟨rfl, rfl⟩
  | response bs =>
    obtain ⟨a, ws, fits, rfl, rfl⟩ | ⟨a, x, y, rfl, rfl⟩ := decodeResponse_eq_ok_iff.1 read
    · exact ⟨rfl, (wf_rdrsp_iff a ws).2 fits⟩
    · exact ⟨rfl, rfl⟩

/-- Settles O3: closed words and frames, which the decoder is run on. -/
theorem specWordsDecode : Obligations.SpecWordsDecode := by
  refine ⟨⟨rfl, rfl, rfl, rfl, rfl⟩, ⟨rfl, rfl, rfl⟩, ?_, ?_, ?_, ?_⟩ <;> decide +kernel

end Sys2Proof.Machine
end

section
/-! PROOFS. What the CRC16 detects (40_crc16.md R106): the residue of a sequence with its CRC appended is 0, and the
residue of one with a byte changed is not, for the register's update is one-to-one in the register and in the byte. -/

namespace Sys2Proof.Machine

/-! ### The residue -/

/-- n iterations on a register whose low n bits are 0 only shift it. -/
theorem crcShifts_of_low_zero {n : Nat} {c : Word} (low : ∀ i < n, c.getLsbD i = false) : crcShifts n c = c >>> n := by
  induction n generalizing c with
  | zero => simp [crcShifts]
  | succ n ih =>
    have first : crcShift c = c >>> 1 := by rw [crcShift, low 0 (by omega), if_neg Bool.false_ne_true]
    rw [crcShifts, first, ih (fun i h => by simpa using low (1 + i) (by omega)), ← BitVec.shiftRight_add, Nat.add_comm]

/-- The low byte of the register leaves the high byte, moved down. -/
theorem crcByte_lo8 (c : Word) : crcByte c (lo8 c) = (hi8 c).setWidth 16 := by
  have low (i : Nat) (h : i < 8) : (c ^^^ (lo8 c).setWidth 16).getLsbD i = false := by
    have h16 : i < 16 := by omega
    simp [lo8, h, h16]
  rw [crcByte, crcShifts_of_low_zero low]
  apply BitVec.eq_of_getLsbD_eq
  intro i h
  by_cases high : 8 + i < 16
  · have h8 : i < 8 := by omega
    simp [hi8, lo8, h, h8]
  · have h8 : ¬i < 8 := by omega
    simp [hi8, lo8, h8, BitVec.getLsbD_of_ge c (8 + i) (by omega)]

theorem crc16_append (as bs : List Byte) : crc16 (as ++ bs) = bs.foldl crcByte (crc16 as) := List.foldl_append ..

/-- A register below 256 that takes itself is 0. -/
theorem crcByte_setWidth_self (b : Byte) : crcByte (b.setWidth 16) b = 0#16 := by
  rw [crcByte, BitVec.xor_self]; rfl

theorem crc16_withCrc (bs : List Byte) : crc16 (withCrc bs) = 0#16 := by
  rw [withCrc, crc16_append]
  simp only [List.foldl_cons, List.foldl_nil, crcByte_lo8, crcByte_setWidth_self]

/-- Settles O7: the first CRC byte clears the low half of the register, the second the rest. -/
theorem crcResidueIsZero : Obligations.CrcResidueIsZero := fun bs => ⟨crc16_withCrc bs, crcOk_withCrc bs⟩

/-- Settles O6: the function is run on the three sequences. -/
theorem crcReferenceVectors : Obligations.CrcReferenceVectors := by
  refine ⟨?_, ?_, ?_⟩ <;> decide +kernel

/-! ### One-to-one -/

/-- The top bit of the register after an iteration is the bit shifted out. -/
theorem msb_crcShift (c : Word) : (crcShift c).getLsbD 15 = c.getLsbD 0 := by
  unfold crcShift Config.crcPoly
  split_ifs with out
  · rw [out]; simp
  · rw [Bool.eq_false_iff.2 out]; simp

theorem crcShift_injective : Function.Injective crcShift := by
  intro c d same
  have out : c.getLsbD 0 = d.getLsbD 0 := by rw [← msb_crcShift c, same, msb_crcShift]
  have rest : c >>> 1 = d >>> 1 := by
    unfold crcShift at same
    rw [out] at same
    split_ifs at same
    · exact (BitVec.xor_left_inj _).1 same
    · exact same
  apply BitVec.eq_of_getLsbD_eq
  intro i h
  cases i with
  | zero => exact out
  | succ i => simpa [Nat.add_comm] using congrArg (BitVec.getLsbD · i) rest

theorem crcShifts_injective (n : Nat) : Function.Injective (crcShifts n) := by
  rw [funext (crcShifts_eq_iterate n)]
  exact crcShift_injective.iterate n

theorem crcByte_injective (b : Byte) : Function.Injective (crcByte · b) :=
  fun _ _ same => (BitVec.xor_left_inj _).1 (crcShifts_injective 8 same)

theorem crcByte_injective_byte (c : Word) : Function.Injective (crcByte c) := by
  intro b d same
  have wide : b.setWidth 16 = d.setWidth 16 := (BitVec.xor_right_inj _).1 (crcShifts_injective 8 same)
  simpa [BitVec.toNat_eq, Nat.mod_eq_of_lt (b.isLt.trans (by norm_num : 2 ^ 8 < 65536)),
    Nat.mod_eq_of_lt (d.isLt.trans (by norm_num : 2 ^ 8 < 65536))] using wide

theorem foldl_crcByte_injective (bs : List Byte) : Function.Injective (bs.foldl crcByte) := by
  induction bs with
  | nil => exact fun _ _ same => same
  | cons b bs ih => exact fun _ _ same => crcByte_injective b (ih same)

/-- Two sequences that differ in one byte have different CRCs. -/
theorem crc16_set_ne {bs : List Byte} {i : Nat} {b : Byte} (h : i < bs.length) (changed : b ≠ byteAt bs i) :
    crc16 (bs.set i b) ≠ crc16 bs := by
  intro same
  have split : bs = bs.take i ++ byteAt bs i :: bs.drop (i + 1) := by
    rw [byteAt_eq_getElem bs h, List.getElem_cons_drop, List.take_append_drop]
  rw [List.set_eq_take_append_cons_drop, if_pos h, crc16_append] at same
  conv at same => rhs; rw [split, crc16_append]
  exact changed (crcByte_injective_byte _ (foldl_crcByte_injective _ same))

theorem crc16_eq_zero_of_crcOk {bs : List Byte} (long : 2 ≤ bs.length) (passes : crcOk bs = true) : crc16 bs = 0#16 := by
  rw [eq_withCrc_body long passes, crc16_withCrc]

/-- A sequence that passes its CRC does not pass it with one byte changed (R106). -/
theorem crcOk_set_eq_false {bs : List Byte} {i : Nat} {b : Byte} (long : 2 ≤ bs.length) (passes : crcOk bs = true)
    (h : i < bs.length) (changed : b ≠ byteAt bs i) : crcOk (bs.set i b) = false := by
  by_contra still
  apply crc16_set_ne h changed
  rw [crc16_eq_zero_of_crcOk (by simpa using long) (by simpa using still), crc16_eq_zero_of_crcOk long passes]

end Sys2Proof.Machine
end

section
/-! PROOFS. The shared decoder and the DECODE command (41_frame_codec.md R113 to R118): which sequences it accepts, what
an accepted and a refused one leave, and what the host reads after it. -/

namespace Sys2Proof.Machine

/-! ### Which sequences the decoder accepts (R114 to R117) -/

theorem getLsbD_zero_eq_false_iff (b : Byte) : b.getLsbD 0 = false ↔ b.toNat % 2 = 0 := by
  rw [BitVec.getLsbD, Nat.testBit_zero, decide_eq_false_iff_not]
  omega

section Decoder

variable (s : State) (bs : List Byte)

/-- The decoder's code, with the byte count as a number. -/
theorem decodeResponse_verdict :
    (s.decodeResponse bs).1 =
      if bs.length < 5 then .malformedFrame
      else if crcOk bs = false then .crcMismatch
      else if byteAt bs 1 = 0x03#8 then
        if bs.length = (byteAt bs 2).toNat + 5 ∧ (byteAt bs 2).toNat % 2 = 0 then .ok else .malformedFrame
      else if byteAt bs 1 = 0x06#8 then if bs.length = 8 then .ok else .malformedFrame
      else .malformedFrame := by
  simp only [decodeResponse_code, getLsbD_zero_eq_false_iff]

variable {s bs}

theorem decodeResponse_ok_of_read (passes : crcOk bs = true) (func : byteAt bs 1 = 0x03#8)
    (length : bs.length = (byteAt bs 2).toNat + 5) (even : (byteAt bs 2).toNat % 2 = 0) :
    (s.decodeResponse bs).1 = .ok := by
  have long : ¬bs.length < 5 := by omega
  rw [decodeResponse_verdict, if_neg long, passes, if_neg (by decide), if_pos func, if_pos ⟨length, even⟩]

theorem decodeResponse_ok_of_write (passes : crcOk bs = true) (func : byteAt bs 1 = 0x06#8) (length : bs.length = 8) :
    (s.decodeResponse bs).1 = .ok := by
  have long : ¬bs.length < 5 := by omega
  have notRead : byteAt bs 1 ≠ 0x03#8 := by rw [func]; decide
  rw [decodeResponse_verdict, if_neg long, passes, if_neg (by decide), if_neg notRead, if_pos func, if_pos length]

/-- The sequences that fit RXBUF and are accepted are the layouts of R85 and R87. -/
theorem decodeResponse_ok_iff (fits : bs.length ≤ 256) :
    (s.decodeResponse bs).1 = .ok ↔
      (∃ a ws, ws.length ≤ 125 ∧ bs = readResponse a ws) ∨ ∃ a x y, bs = shortFrame a 0x06#8 x y := by
  constructor
  case mpr =>
    rintro (⟨a, ws, few, rfl⟩ | ⟨a, x, y, rfl⟩)
    · apply decodeResponse_ok_of_read (crcOk_readResponse a ws) (byteAt_readResponse_func a ws)
      · rw [length_readResponse, byteAt_readResponse_count, toNat_readResponse_count few]
      · rw [byteAt_readResponse_count, toNat_readResponse_count few, Nat.mul_mod_right]
    · exact decodeResponse_ok_of_write (crcOk_shortFrame ..) rfl (length_shortFrame ..)
  case mp =>
    intro accepted
    obtain ⟨-, passes, -⟩ := decodeResponse_of_ok s accepted
    rw [decodeResponse_verdict] at accepted
    split_ifs at accepted with _ _ func layout func' length
    · refine .inl ⟨_, _, ?_, eq_readResponse layout.1 layout.2 passes func⟩
      rw [List.length_map, List.length_range]
      omega
    · have frame := eq_shortFrame length passes
      rw [func'] at frame
      exact .inr ⟨_, _, _, frame⟩

/-! ### What the decoder leaves (R115, R116, R118) -/

theorem decodeResponse_bytecnt_of_read (accepted : (s.decodeResponse bs).1 = .ok) (func : byteAt bs 1 = 0x03#8) :
    (s.decodeResponse bs).2.regs.bytecnt = byteAt bs 2 := by
  have registers := decodeResponse_registers s bs
  rw [if_pos ⟨accepted, func⟩] at registers
  exact (Prod.mk.inj registers).1

theorem regvalWord_decodeResponse_of_read (accepted : (s.decodeResponse bs).1 = .ok) (func : byteAt bs 1 = 0x03#8)
    (k : Nat) :
    (s.decodeResponse bs).2.regvalWord k =
      if k < (byteAt bs 2).toNat / 2 then responseWord bs k else s.regvalWord k := by
  have registers := decodeResponse_registers s bs
  rw [if_pos ⟨accepted, func⟩] at registers
  obtain ⟨-, regval⟩ := Prod.mk.inj registers
  simp only [State.regvalWord, decodeResponse_env, regval, Memory.read_writeAll]
  by_cases listed : k < (byteAt bs 2).toNat / 2 <;> simp [listed]

theorem buffers_eq {b c : Buffers} (tx : b.tx = c.tx) (rx : b.rx = c.rx) (regval : b.regval = c.regval) : b = c := by
  cases b
  cases c
  subst tx rx regval
  rfl

/-- But for an accepted 0x03 response the decoder keeps BYTECNT and every buffer. -/
theorem decodeResponse_keeps_registers (not_read : ¬((s.decodeResponse bs).1 = .ok ∧ byteAt bs 1 = 0x03#8)) :
    (s.decodeResponse bs).2.regs.nregs = 0#7 ∧ (s.decodeResponse bs).2.regs.bytecnt = s.regs.bytecnt ∧
      (s.decodeResponse bs).2.bufs = s.bufs := by
  have registers := decodeResponse_registers s bs
  have nregs := decodeResponse_nregs s bs
  rw [if_neg not_read] at registers nregs
  obtain ⟨bytecnt, regval⟩ := Prod.mk.inj registers
  exact ⟨nregs, bytecnt, buffers_eq (decodeResponse_bufs_tx s bs) (decodeResponse_bufs_rx s bs) regval⟩

/-- But for an accepted 0x06 response the decoder keeps the echo registers. -/
theorem decodeResponse_keeps_echo (not_write : ¬((s.decodeResponse bs).1 = .ok ∧ byteAt bs 1 = 0x06#8)) :
    (s.decodeResponse bs).2.regs.echoAddr = s.regs.echoAddr ∧
      (s.decodeResponse bs).2.regs.echoValue = s.regs.echoValue := by
  have echo := decodeResponse_echo s bs
  rw [if_neg not_write] at echo
  exact Prod.mk.inj echo

theorem decodeResponse_echo_of_write (accepted : (s.decodeResponse bs).1 = .ok) (func : byteAt bs 1 = 0x06#8) :
    (s.decodeResponse bs).2.regs.echoAddr = be16 (byteAt bs 2) (byteAt bs 3) ∧
      (s.decodeResponse bs).2.regs.echoValue = be16 (byteAt bs 4) (byteAt bs 5) := by
  have echo := decodeResponse_echo s bs
  rw [if_pos ⟨accepted, func⟩] at echo
  exact Prod.mk.inj echo

theorem decodeResponse_rxhdr_of_ok (accepted : (s.decodeResponse bs).1 = .ok) :
    (s.decodeResponse bs).2.regs.rxhdr = be16 (byteAt bs 0) (byteAt bs 1) := by
  obtain ⟨long, passes, -⟩ := decodeResponse_of_ok s accepted
  rw [decodeResponse_rxhdr, if_pos ⟨long, passes⟩]

theorem toNat_nregs_decodeResponse_of_read (accepted : (s.decodeResponse bs).1 = .ok) (func : byteAt bs 1 = 0x03#8) :
    (s.decodeResponse bs).2.regs.nregs.toNat = (byteAt bs 2).toNat / 2 := by
  have count := (byteAt bs 2).isLt
  rw [decodeResponse_nregs, if_pos ⟨accepted, func⟩, BitVec.toNat_ofNat]
  omega

/-- The registers of a response of up to 125 are what the decoder leaves (R85, R115). -/
theorem decodeResponse_readResponse {a : Byte} {ws : List Word} (few : ws.length ≤ 125) :
    let r := s.decodeResponse (readResponse a ws)
    r.1 = .ok ∧ r.2.regs.nregs.toNat = ws.length ∧ r.2.regs.bytecnt.toNat = 2 * ws.length ∧
      r.2.regs.rxhdr = be16 a 0x03#8 ∧ ∀ k (h : k < ws.length), r.2.regvalWord k = ws[k] := by
  have accepted : (s.decodeResponse (readResponse a ws)).1 = .ok :=
    (decodeResponse_ok_iff (by rw [length_readResponse]; omega)).2 (.inl ⟨a, ws, few, rfl⟩)
  have count := toNat_readResponse_count few
  have half : (byteAt (readResponse a ws) 2).toNat / 2 = ws.length := by rw [byteAt_readResponse_count, count]; omega
  refine ⟨accepted, ?nregs, ?bytecnt, decodeResponse_rxhdr_of_ok accepted, fun k h => ?word⟩
  case nregs => rw [toNat_nregs_decodeResponse_of_read accepted rfl, half]
  case bytecnt => rw [decodeResponse_bytecnt_of_read accepted rfl, byteAt_readResponse_count, count]
  case word =>
    rw [regvalWord_decodeResponse_of_read accepted rfl, half, if_pos h, responseWord_readResponse a ws h]

/-! ### What the host reads after the decoder -/

theorem status_decodeResponse : (s.decodeResponse bs).2.status = s.status := by
  simp only [State.status, State.busy, State.err, State.rej, decodeResponse_arb, decodeResponse_regs_conn,
    decodeResponse_regs_done, decodeResponse_regs_result, decodeResponse_regs_reject, decodeResponse_regs_late,
    decodeResponse_regs_ovf, decodeResponse_regs_aborted]

/-- The decoder shows below REGVAL in its outputs alone. -/
theorem peek_decodeResponse {a : HostAddr} (low : a.toNat < 0x300) (bytecnt : a.toNat ≠ 0x00D)
    (nregs : a.toNat ≠ 0x00E) (echoAddr : a.toNat ≠ 0x00F) (echoValue : a.toNat ≠ 0x010) (rxhdr : a.toNat ≠ 0x011) :
    (s.decodeResponse bs).2.peek a = s.peek a := by
  apply peek_congr (status := fun _ => status_decodeResponse) (bytecnt := fun h => absurd h bytecnt)
    (nregs := fun h => absurd h nregs) (echoAddr := fun h => absurd h echoAddr)
    (echoValue := fun h => absurd h echoValue) (rxhdr := fun h => absurd h rxhdr)
    (tx := fun i _ _ => txByte_congr (decodeResponse_bufs_tx s bs) (congrArg Env.epoch (decodeResponse_env s bs)) i)
    (rx := fun i _ _ => rxByte_congr (decodeResponse_bufs_rx s bs) (congrArg Env.epoch (decodeResponse_env s bs)) i)
    (regval := fun _ _ h => absurd low (by omega)) <;> intros <;> simp

end Decoder

/-! ### The DECODE command (R113) -/

theorem exec_decode (s : State) : exec .decode s = .next (s.issue 0x4#4 State.runDecode) := rfl

/-- The state and the code after the decoder has run on the accepted command's RXBUF[0..RXLEN). -/
def State.decoded (s : State) : Code × State := s.accept.decodeResponse s.rxBytes

theorem exec_decode_of_free {s : State} (free : s.busy = false) :
    exec .decode s = .next (s.decoded.2.finish 0x4#4 s.decoded.1) := by
  rw [exec_decode, issue_of_free free]
  rfl

section Decoded

variable {s : State}

theorem accepted_decoded : s.decoded.2.Accepted := accepted_decodeResponse (accepted_accept s) s.rxBytes

theorem acceptedAndDone_decoded_of_ok (ok : s.decoded.1 = .ok) :
    (s.decoded.2.finish 0x4#4 s.decoded.1).AcceptedAndDone 0x0040#16 := by
  rw [ok]
  exact acceptedAndDone_finish accepted_decoded 0x4#4 .ok

/-- Completion leaves REGVAL as the decoder left it. -/
theorem peek_regval_finish_decoded (op : BitVec 4) (c : Code) {k : Nat} (h : k < 125) :
    (s.decoded.2.finish op c).peek (BitVec.ofNat 10 (0x300 + k)) = s.decoded.2.regvalWord k := by
  rw [peek_regval _ h]
  rfl

end Decoded

/-! ### The obligations -/

/-- Settles O17: the decoder gives back the registers of the layout, and completion leaves them. -/
theorem decodeRecoversRegisters : Obligations.DecodeRecoversRegisters := by
  intro s a ws free few frame
  have layout := decodeResponse_readResponse (s := s.accept) (a := a) few
  rw [← frame] at layout
  obtain ⟨ok, nregs, bytecnt, rxhdr, words⟩ := layout
  refine ⟨_, exec_decode_of_free free, acceptedAndDone_decoded_of_ok ok, nregs, bytecnt, rxhdr, fun k h => ?_⟩
  rw [peek_regval_finish_decoded _ _ (by omega)]
  exact words k h

/-- Settles O18: both decoders accept the layouts of R85 and R87. -/
theorem decodeAcceptsExactlyTheResponses : Obligations.DecodeAcceptsExactlyTheResponses := by
  intro s fits
  rw [decodeResponse_ok_iff (by simpa using fits)]
  constructor
  · rintro (⟨a, ws, few, frame⟩ | ⟨a, x, y, frame⟩)
    · exact ⟨_, decodeResponse_eq_ok_iff.2 (.inl ⟨a, ws, few, frame, rfl⟩)⟩
    · exact ⟨_, decodeResponse_eq_ok_iff.2 (.inr ⟨a, x, y, frame, rfl⟩)⟩
  · rintro ⟨i, read⟩
    obtain ⟨a, ws, few, frame, -⟩ | ⟨a, x, y, frame, -⟩ := decodeResponse_eq_ok_iff.1 read
    · exact .inl ⟨a, ws, few, frame⟩
    · exact .inr ⟨a, x, y, frame⟩

/-- Settles O16: a refused sequence is neither kind of accepted response, and RXHDR has its own rule. -/
theorem failedDecodeMarksNothingValid : Obligations.FailedDecodeMarksNothingValid := by
  refine ⟨fun s bs refused => ?_, fun s free => exec_decode_of_free free⟩
  obtain ⟨nregs, bytecnt, bufs⟩ := decodeResponse_keeps_registers (s := s) (bs := bs) fun h => refused h.1
  obtain ⟨echoAddr, echoValue⟩ := decodeResponse_keeps_echo (s := s) (bs := bs) fun h => refused h.1
  refine ⟨nregs, bytecnt, echoAddr, echoValue, bufs, ?_⟩
  have early : (bs.length < 5 ∨ crcOk bs = false) ↔ ¬(5 ≤ bs.length ∧ crcOk bs = true) := by
    rw [not_and_or, not_le, Bool.not_eq_true]
  simp only [decodeResponse_rxhdr, early, ite_not]

/-- Settles O8: the CRC check fails on the changed frame, so nothing is marked valid and RXHDR is not reached. -/
theorem singleByteChangeIsCrcMismatch : Obligations.SingleByteChangeIsCrcMismatch := by
  intro s bs i b free long passes inside changed received
  have fails : crcOk s.rxBytes = false := by rw [received]; exact crcOk_set_eq_false (by omega) passes inside changed
  have length : s.rxBytes.length = bs.length := by rw [received, List.length_set]
  have code : s.decoded.1 = .crcMismatch := by
    rw [State.decoded, decodeResponse_verdict, if_neg (by omega), if_pos fails]
  have refused : s.decoded.1 ≠ .ok := by rw [code]; decide
  obtain ⟨nregs, bytecnt, -, -, bufs, rxhdr⟩ := failedDecodeMarksNothingValid.1 s.accept s.rxBytes refused
  rw [if_pos (.inr fails)] at rxhdr
  refine ⟨_, exec_decode_of_free free, ?_, nregs, bufs, rxhdr, bytecnt⟩
  rw [code]
  exact acceptedAndDone_finish accepted_decoded 0x4#4 .crcMismatch

/-- Settles O13: the code is the decoder's, and below REGVAL only its outputs and the flags show. -/
theorem decodeRecordsVerdict : Obligations.DecodeRecordsVerdict := by
  refine ⟨issuedAs_of_exec_eq_issue rfl exec_decode, fun s free => ?_⟩
  intro bs bc
  have crc : (be16 (byteAt bs (bs.length - 1)) (byteAt bs (bs.length - 2)) ≠ crc16 (bs.take (bs.length - 2))) ↔
      crcOk bs = false := by rw [crcOk, beq_eq_false_iff_ne]
  refine ⟨_, exec_decode_of_free free, accepted_finish accepted_decoded _ _, rfl, ?code,
    decodeResponse_regs_conn s.accept bs, decodeResponse_arb s.accept bs, decodeResponse_env s.accept bs, ?frame⟩
  case code => simp only [crc, finish_regs_result, State.decoded, decodeResponse_verdict, bs, bc]
  case frame =>
    intro a unchanged low
    simp only [List.mem_cons, List.not_mem_nil, or_false, not_or] at unchanged
    obtain ⟨status, result, reject, bytecnt, nregs, echoAddr, echoValue, rxhdr⟩ := unchanged
    rw [peek_finish _ _ _ status result, State.decoded, peek_decodeResponse low bytecnt nregs echoAddr echoValue rxhdr,
      peek_accept s status reject]

/-- Settles O14: an accepted 0x03 response writes the decode outputs but the echo registers. -/
theorem decodeOfReadResponse : Obligations.DecodeOfReadResponse := by
  intro s free bs bc length even passes func _
  have ok : s.decoded.1 = .ok := decodeResponse_ok_of_read passes func length even
  have notWrite : byteAt bs 1 ≠ 0x06#8 := by rw [func]; decide
  obtain ⟨echoAddr, echoValue⟩ := decodeResponse_keeps_echo (s := s.accept) (bs := bs) fun h => notWrite h.2
  refine ⟨_, exec_decode_of_free free, acceptedAndDone_decoded_of_ok ok,
    congrArg (BitVec.setWidth 16) (decodeResponse_bytecnt_of_read ok func),
    toNat_nregs_decodeResponse_of_read ok func, decodeResponse_rxhdr_of_ok ok, fun k h => ?_, echoAddr, echoValue⟩
  rw [peek_regval_finish_decoded _ _ h, peek_regval s h]
  exact regvalWord_decodeResponse_of_read ok func k

/-- Settles O15: an accepted 0x06 response writes RXHDR, NREGS and the echo registers. -/
theorem decodeOfWriteResponse : Obligations.DecodeOfWriteResponse := by
  intro s free bs length passes func
  have ok : s.decoded.1 = .ok := decodeResponse_ok_of_write passes func length
  have notRead : byteAt bs 1 ≠ 0x03#8 := by rw [func]; decide
  obtain ⟨echoAddr, echoValue⟩ := decodeResponse_echo_of_write ok func
  obtain ⟨nregs, bytecnt, bufs⟩ := decodeResponse_keeps_registers (s := s.accept) (bs := bs) fun h => notRead h.2
  exact ⟨_, exec_decode_of_free free, acceptedAndDone_decoded_of_ok ok, echoAddr, echoValue,
    decodeResponse_rxhdr_of_ok ok, nregs, bytecnt, bufs⟩

end Sys2Proof.Machine
end

section
/-! PROOFS. The verdict on the burst of a READ and of a WRITE (42_transaction.md R138, R151, R152), and on one that
overflowed RXBUF (R138, R147). -/

namespace Sys2Proof.Machine

section Checks

variable {s : State} {bs : List Byte}

/-! ### The check of a READ (R151) -/

theorem setWidth_eq_iff_toNat_eq (n : BitVec 7) (w : Word) : n.setWidth 16 = w ↔ n.toNat = w.toNat := by
  have small := n.isLt
  rw [← BitVec.toNat_inj, BitVec.toNat_setWidth, Nat.mod_eq_of_lt (by omega)]

theorem checkRead_of_refused {c : Code} (code : (s.decodeResponse bs).1 = c) (refused : c ≠ .ok) :
    (s.checkRead bs).1 = c := by
  rw [checkRead_code, code, if_neg refused]

/-- The decoder accepted the sequence: what is left is the function and the number of registers. -/
theorem checkRead_of_accepted (accepted : (s.decodeResponse bs).1 = .ok) :
    (s.checkRead bs).1 =
      if byteAt bs 1 = 0x03#8 ∧ (byteAt bs 2).toNat / 2 = s.regs.arg1.toNat then .ok else .malformedFrame := by
  obtain ⟨-, -, func⟩ := decodeResponse_of_ok s accepted
  rw [checkRead_code, if_pos accepted]
  simp only [func, setWidth_eq_iff_toNat_eq]
  by_cases read : byteAt bs 1 = 0x03#8
  · rw [toNat_nregs_decodeResponse_of_read accepted read]
  · simp only [read, false_and]

/-- The check of a READ, condition by condition. -/
theorem checkRead_verdict (s : State) (bs : List Byte) :
    (s.checkRead bs).1 =
      if bs.length < 5 then .malformedFrame
      else if crcOk bs = false then .crcMismatch
      else if byteAt bs 1 = 0x03#8 ∧ bs.length = (byteAt bs 2).toNat + 5 ∧ (byteAt bs 2).toNat % 2 = 0 ∧
        (byteAt bs 2).toNat / 2 = s.regs.arg1.toNat then .ok
      else .malformedFrame := by
  have code := decodeResponse_verdict s bs
  by_cases short : bs.length < 5
  · rw [if_pos short] at code ⊢
    exact checkRead_of_refused code (by decide)
  by_cases wrong : crcOk bs = false
  · rw [if_neg short, if_pos wrong] at code ⊢
    exact checkRead_of_refused code (by decide)
  rw [if_neg short, if_neg wrong] at code ⊢
  by_cases read : byteAt bs 1 = 0x03#8
  · rw [if_pos read] at code
    by_cases layout : bs.length = (byteAt bs 2).toNat + 5 ∧ (byteAt bs 2).toNat % 2 = 0
    · rw [if_pos layout] at code
      simp only [checkRead_of_accepted code, read, ← layout.1, layout.2, true_and]
    · rw [if_neg layout] at code
      rw [if_neg fun h => layout ⟨h.2.1, h.2.2.1⟩]
      exact checkRead_of_refused code (by decide)
  · rw [if_neg fun h => read h.1]
    by_cases accepted : (s.decodeResponse bs).1 = .ok
    · rw [checkRead_of_accepted accepted, if_neg fun h => read h.1]
    · rw [if_neg read] at code
      refine checkRead_of_refused ?_ (by decide)
      split_ifs at code with write length
      · exact absurd code accepted
      · exact code
      · exact code

/-- The decoder's state stands when the check of a READ passes. -/
theorem checkRead_state_of_ok (ok : (s.checkRead bs).1 = .ok) :
    (s.decodeResponse bs).1 = .ok ∧ (s.checkRead bs).2 = (s.decodeResponse bs).2 := by
  unfold State.checkRead at ok ⊢
  generalize s.decodeResponse bs = r at ok ⊢
  obtain ⟨c, t⟩ := r
  cases c
  case ok =>
    dsimp only at ok ⊢
    split_ifs at ok ⊢
    exact ⟨rfl, rfl⟩
  all_goals cases ok

/-- The check of a READ passes exactly on the response of ARG1 registers. -/
theorem checkRead_ok_iff (few : s.regs.arg1.toNat ≤ 125) :
    (s.checkRead bs).1 = .ok ↔ ∃ a ws, ws.length = s.regs.arg1.toNat ∧ bs = readResponse a ws := by
  constructor
  case mp =>
    intro ok
    rw [checkRead_verdict] at ok
    split_ifs at ok with _ passes layout
    obtain ⟨func, length, even, count⟩ := layout
    exact ⟨_, _, by rw [List.length_map, List.length_range, count],
      eq_readResponse length even (Bool.not_eq_false _ ▸ passes) func⟩
  case mpr =>
    rintro ⟨a, ws, length, rfl⟩
    have accepted := (decodeResponse_readResponse (s := s) (a := a) (length ▸ few : ws.length ≤ 125)).1
    rw [checkRead_of_accepted accepted, byteAt_readResponse_count, toNat_readResponse_count (by omega)]
    exact if_pos ⟨rfl, by omega⟩

/-! ### The check of a WRITE (R152) -/

theorem checkWrite_of_refused {c : Code} (code : (s.decodeResponse bs).1 = c) (refused : c ≠ .ok) :
    (s.checkWrite bs).1 = c := by
  rw [checkWrite_code, code, if_neg refused]

/-- The decoder accepted the sequence: what is left is the function and the echo. -/
theorem checkWrite_of_accepted (accepted : (s.decodeResponse bs).1 = .ok) :
    (s.checkWrite bs).1 =
      if byteAt bs 1 = 0x06#8 then
        if be16 (byteAt bs 2) (byteAt bs 3) = s.regs.arg0 ∧ be16 (byteAt bs 4) (byteAt bs 5) = s.regs.arg1 then .ok
        else .writeVerificationFailed
      else .malformedFrame := by
  obtain ⟨-, -, func⟩ := decodeResponse_of_ok s accepted
  rw [checkWrite_code, if_pos accepted]
  simp only [func]
  by_cases write : byteAt bs 1 = 0x06#8
  · obtain ⟨addr, value⟩ := decodeResponse_echo_of_write accepted write
    rw [addr, value]
  · rw [if_neg write, if_neg write]

/-- The check of a WRITE, condition by condition. -/
theorem checkWrite_verdict (s : State) (bs : List Byte) :
    (s.checkWrite bs).1 =
      if bs.length < 5 then .malformedFrame
      else if crcOk bs = false then .crcMismatch
      else if byteAt bs 1 = 0x06#8 ∧ bs.length = 8 then
        if be16 (byteAt bs 2) (byteAt bs 3) = s.regs.arg0 ∧ be16 (byteAt bs 4) (byteAt bs 5) = s.regs.arg1 then .ok
        else .writeVerificationFailed
      else .malformedFrame := by
  have code := decodeResponse_verdict s bs
  by_cases short : bs.length < 5
  · rw [if_pos short] at code ⊢
    exact checkWrite_of_refused code (by decide)
  by_cases wrong : crcOk bs = false
  · rw [if_neg short, if_pos wrong] at code ⊢
    exact checkWrite_of_refused code (by decide)
  by_cases write : byteAt bs 1 = 0x06#8 ∧ bs.length = 8
  · have accepted := decodeResponse_ok_of_write (s := s) (Bool.not_eq_false _ ▸ wrong) write.1 write.2
    rw [checkWrite_of_accepted accepted, if_pos write.1, if_neg short, if_neg wrong, if_pos write]
  · rw [if_neg short, if_neg wrong, if_neg write]
    by_cases accepted : (s.decodeResponse bs).1 = .ok
    · have notWrite : byteAt bs 1 ≠ 0x06#8 := by
        intro func
        rw [accepted, if_neg short, if_neg wrong, func, if_neg (by decide), if_pos rfl,
          if_neg fun length => write ⟨func, length⟩] at code
        cases code
      rw [checkWrite_of_accepted accepted, if_neg notWrite]
    · rw [if_neg short, if_neg wrong] at code
      refine checkWrite_of_refused ?_ (by decide)
      split_ifs at code
      · exact absurd code accepted
      · exact code
      · exact absurd code accepted
      · exact code
      · exact code

/-- The check of a WRITE passes exactly on the response that echoes ARG0 and ARG1. -/
theorem checkWrite_ok_iff :
    (s.checkWrite bs).1 = .ok ↔ ∃ a, bs = shortFrame a 0x06#8 s.regs.arg0 s.regs.arg1 := by
  constructor
  case mp =>
    intro ok
    rw [checkWrite_verdict] at ok
    split_ifs at ok with _ passes write echo
    have layout := eq_shortFrame write.2 (Bool.not_eq_false _ ▸ passes)
    rw [write.1, echo.1, echo.2] at layout
    exact ⟨_, layout⟩
  case mpr =>
    rintro ⟨a, rfl⟩
    rw [checkWrite_verdict]
    simp

/-- The check of a WRITE keeps the echo registers as the decoder left them. -/
theorem checkWrite_echo :
    (s.checkWrite bs).2.regs.echoAddr = (s.decodeResponse bs).2.regs.echoAddr ∧
      (s.checkWrite bs).2.regs.echoValue = (s.decodeResponse bs).2.regs.echoValue := by
  unfold State.checkWrite
  rcases s.decodeResponse bs with ⟨c, t⟩
  cases c
  case ok =>
    dsimp only
    split_ifs <;> exact ⟨rfl, rfl⟩
  all_goals exact ⟨rfl, rfl⟩

end Checks

/-! ### `complete_xact` by the command that owns the burst (R138) -/

section Complete

variable {s : State}

theorem completeXact_of_read (read : s.arb.xop = .read) (fits : s.regs.ovf = false) :
    s.completeXact = (s.checkRead s.rxBytes).2.endXact (s.checkRead s.rxBytes).1 := by
  have check : s.burstCheck s.rxBytes = s.checkRead s.rxBytes := by simp only [State.burstCheck, read]
  rw [completeXact_eq, fits, if_neg Bool.false_ne_true, check]

theorem completeXact_of_write (write : s.arb.xop = .write) (fits : s.regs.ovf = false) :
    s.completeXact = (s.checkWrite s.rxBytes).2.endXact (s.checkWrite s.rxBytes).1 := by
  have check : s.burstCheck s.rxBytes = s.checkWrite s.rxBytes := by simp only [State.burstCheck, write]
  rw [completeXact_eq, fits, if_neg Bool.false_ne_true, check]

/-- RESULT of a READ: its opcode, and the code of the check. -/
theorem completeXact_result_of_read (read : s.arb.xop = .read) (fits : s.regs.ovf = false) :
    s.completeXact.regs.result = ⟨0x7#4, (s.checkRead s.rxBytes).1⟩ := by
  have op := completeXact_regs_result_op s
  rw [completeXact_of_read read fits, endXact_regs_result] at op ⊢
  rw [read] at op
  exact congrArg (Record.mk · _) op

theorem completeXact_result_of_write (write : s.arb.xop = .write) (fits : s.regs.ovf = false) :
    s.completeXact.regs.result = ⟨0x8#4, (s.checkWrite s.rxBytes).1⟩ := by
  have op := completeXact_regs_result_op s
  rw [completeXact_of_write write fits, endXact_regs_result] at op ⊢
  rw [write] at op
  exact congrArg (Record.mk · _) op

end Complete

/-! ### The obligations -/

/-- Settles O44: the check of a READ, and what the decoder leaves of a response it passes. -/
theorem readSucceedsExactlyOnItsReply : Obligations.ReadSucceedsExactlyOnItsReply := by
  intro s read fits _ few
  have result := completeXact_result_of_read read fits
  have passes : s.completeXact.regs.result = ⟨0x7#4, .ok⟩ ↔ (s.checkRead s.rxBytes).1 = .ok := by
    rw [result, Record.mk.injEq]
    exact and_iff_right rfl
  refine ⟨passes.trans (checkRead_ok_iff few), fun a ws length frame => ?registers, ?verdict, fun refused => ?nregs⟩
  case registers =>
    have ok := (checkRead_ok_iff few).2 ⟨a, ws, length, frame⟩
    obtain ⟨-, state⟩ := checkRead_state_of_ok ok
    have layout := decodeResponse_readResponse (s := s) (a := a) (length ▸ few : ws.length ≤ 125)
    rw [← frame] at layout
    dsimp only at layout
    rw [← state] at layout
    obtain ⟨-, nregs, -, rxhdr, words⟩ := layout
    rw [completeXact_of_read read fits]
    refine ⟨nregs, rxhdr, fun k h => ?_⟩
    rw [peek_regval _ (by omega)]
    exact words k h
  case verdict =>
    dsimp only
    rw [result, checkRead_verdict]
  case nregs =>
    rw [result] at refused
    rw [completeXact_of_read read fits, endXact_regs_nregs, checkRead_nregs, if_neg refused]

/-- Settles O45: the check of a WRITE, which never shows a register. -/
theorem writeSucceedsExactlyOnItsEcho : Obligations.WriteSucceedsExactlyOnItsEcho := by
  intro s write fits _
  have result := completeXact_result_of_write write fits
  refine ⟨?ok, ?verdict, ?nregs⟩
  case ok =>
    rw [result, Record.mk.injEq, ← checkWrite_ok_iff]
    exact and_iff_right rfl
  case verdict =>
    dsimp only
    rw [result, checkWrite_verdict]
  case nregs => rw [completeXact_of_write write fits, endXact_regs_nregs, checkWrite_nregs]

/-- Settles O46: the decoder accepts the echo and leaves it, and the check finds that it is another. -/
theorem wrongEchoIsWriteVerificationFailed : Obligations.WrongEchoIsWriteVerificationFailed := by
  intro s a addr value write fits frame other
  have accepted : (s.decodeResponse s.rxBytes).1 = .ok := by
    rw [frame]
    exact decodeResponse_ok_of_write (crcOk_shortFrame ..) rfl (length_shortFrame ..)
  have func : byteAt s.rxBytes 1 = 0x06#8 := by rw [frame]; rfl
  obtain ⟨echoAddr, echoValue⟩ := decodeResponse_echo_of_write accepted func
  obtain ⟨keptAddr, keptValue⟩ := checkWrite_echo (s := s) (bs := s.rxBytes)
  have code : (s.checkWrite s.rxBytes).1 = .writeVerificationFailed := by
    rw [checkWrite_of_accepted accepted, if_pos func, frame, be16_shortFrame_first, be16_shortFrame_second,
      if_neg fun same => other.elim (· same.1) (· same.2)]
  refine ⟨?result, ?addr, ?value⟩
  case result =>
    rw [peek_result, completeXact_result_of_write write fits, code]
    rfl
  case addr =>
    rw [completeXact_of_write write fits, peek_echoAddr, endXact_regs_echoAddr, keptAddr, echoAddr, frame,
      be16_shortFrame_first]
  case value =>
    rw [completeXact_of_write write fits, peek_echoValue, endXact_regs_echoValue, keptValue, echoValue, frame,
      be16_shortFrame_second]

/-- Settles O48: an overflow is met before the burst is looked at. -/
theorem overflowIsMalformed : Obligations.OverflowIsMalformed := by
  intro s overflowed
  have ends : s.completeXact = s.endXact .malformedFrame := by rw [completeXact_eq, if_pos overflowed]
  rw [ends]
  exact ⟨rfl, rfl, rfl⟩

end Sys2Proof.Machine
end

section
/-! PROOFS. The connection commands OPEN and CLOSE (42_transaction.md R131, R132). -/

namespace Sys2Proof.Machine

/-! ### The draw of an answer (log 3) -/

@[simp] theorem drawn_epoch (e : Env) : e.drawn.epoch = e.epoch := by
  unfold Env.drawn
  split <;> rfl

@[simp] theorem drawn_trace (e : Env) : e.drawn.trace = e.trace := by
  unfold Env.drawn
  split <;> rfl

/-! ### What every read depends on -/

/-- A host read depends on the registers, the buffers, PHASE and the epoch alone. -/
theorem peek_congr_of_fields {s t : State} (regs : t.regs = s.regs) (bufs : t.bufs = s.bufs)
    (phase : t.arb.phase = s.arb.phase) (epoch : t.env.epoch = s.env.epoch) (a : HostAddr) : t.peek a = s.peek a := by
  simp only [State.peek, State.status, State.busy, State.err, State.rej, State.txByte, State.rxByte, State.regvalWord,
    regs, bufs, phase, epoch]

section Open

variable {s : State}

@[simp] theorem phyOpen_regs (p : Word) : (s.phyOpen p).regs = s.regs := rfl
@[simp] theorem phyOpen_bufs (p : Word) : (s.phyOpen p).bufs = s.bufs := rfl
@[simp] theorem phyOpen_arb (p : Word) : (s.phyOpen p).arb = s.arb := rfl

@[simp] theorem phyOpen_epoch (p : Word) : (s.phyOpen p).env.epoch = s.env.epoch := drawn_epoch s.env

theorem phyOpen_trace (p : Word) : (s.phyOpen p).env.trace = s.env.trace ++ [.openPort p (s.phyAnswer p)] :=
  congrArg (· ++ [Output.openPort p (s.phyAnswer p)]) (drawn_trace s.env)

/-! ### OPEN after acceptance (R131) -/

theorem runOpen_of_conn (conn : s.regs.conn = true) : s.runOpen = s.finish 0x5#4 .alreadyOpen := if_pos conn

/-- The state in which the PHY has opened the port that ARG0 names. -/
def State.opened (s : State) : State := { s.phyOpen s.regs.arg0 with regs.conn := true, arb.port := s.regs.arg0 }

theorem runOpen_of_agreed (conn : s.regs.conn = false) (agreed : s.phyAnswer s.regs.arg0 = true) :
    s.runOpen = s.opened.finish 0x5#4 .ok := by
  rw [State.runOpen, conn, if_neg Bool.false_ne_true]
  exact if_pos agreed

theorem runOpen_of_refused (conn : s.regs.conn = false) (refused : s.phyAnswer s.regs.arg0 = false) :
    s.runOpen = (s.phyOpen s.regs.arg0).finish 0x5#4 .portUnavailable := by
  rw [State.runOpen, conn, if_neg Bool.false_ne_true]
  exact if_neg (Bool.eq_false_iff.1 refused)

/-- The call of the PHY shows in no register. -/
theorem peek_phyOpen (p : Word) (a : HostAddr) : (s.phyOpen p).peek a = s.peek a :=
  peek_congr_of_fields (phyOpen_regs p) (phyOpen_bufs p) rfl (phyOpen_epoch p) a

/-- An open port shows in STATUS alone. -/
theorem peek_opened {a : HostAddr} (status : a.toNat ≠ 0x001) : s.opened.peek a = s.peek a := by
  rw [← peek_phyOpen (s := s) s.regs.arg0 a]
  apply peek_congr (status := fun h => absurd h status) <;> intros <;> rfl

/-! ### CLOSE after acceptance (R132) -/

/-- The state in which the PHY has been told to close the port. -/
def State.closed (s : State) : State := { s.emit .closePort with regs.conn := false }

theorem runClose_of_conn (conn : s.regs.conn = true) : s.runClose = s.closed.finish 0x6#4 .ok := by
  rw [State.runClose, conn]
  rfl

theorem runClose_of_no_conn (conn : s.regs.conn = false) : s.runClose = s.finish 0x6#4 .ok := by
  rw [State.runClose, conn]
  rfl

/-- A closed port shows in STATUS alone. -/
theorem peek_closed {a : HostAddr} (status : a.toNat ≠ 0x001) : s.closed.peek a = s.peek a := by
  apply peek_congr (status := fun h => absurd h status) <;> intros <;> rfl

end Open

/-! ### What completion leaves as it reads -/

/-- A command that shows in STATUS alone before it completes shows in the flags, RESULT and REJECT alone. -/
theorem readsAsIn_finish {s t : State} (shows : ∀ a : HostAddr, a.toNat ≠ 0x001 → t.peek a = s.accept.peek a)
    (op : BitVec 4) (c : Code) : (t.finish op c).readsAsIn s [0x001, 0x002, 0x003] := by
  intro a unchanged
  simp only [List.mem_cons, List.not_mem_nil, or_false, not_or] at unchanged
  obtain ⟨status, result, reject⟩ := unchanged
  rw [peek_finish _ _ _ status result, shows a status, peek_accept s status reject]

/-! ### The obligations -/

theorem exec_open (s : State) : exec .openPort s = .next (s.issue 0x5#4 State.runOpen) := rfl

theorem exec_close (s : State) : exec .closePort s = .next (s.issue 0x6#4 State.runClose) := rfl

/-- Settles O19: the three outcomes of `runOpen`; acceptance leaves CONN, ARG0 and the PHY's answer. -/
theorem openConnects : Obligations.OpenConnects := by
  refine ⟨issuedAs_of_exec_eq_issue rfl exec_open, fun s free => ⟨s.accept.runOpen, ?runs, ?_⟩⟩
  case runs => rw [exec_open, issue_of_free free]
  have accepted := accepted_accept s
  by_cases conn : s.regs.conn = true
  · rw [runOpen_of_conn (s := s.accept) conn, if_pos conn]
    exact ⟨rfl, readsAsIn_finish (fun _ _ => rfl) _ _, rfl, acceptedAndDone_finish accepted _ _, conn, rfl, rfl⟩
  have closed : s.accept.regs.conn = false := Bool.eq_false_iff.2 conn
  rw [if_neg conn]
  have trace := phyOpen_trace (s := s.accept) s.regs.arg0
  by_cases agreed : s.phyAnswer s.regs.arg0 = true
  · rw [runOpen_of_agreed closed agreed, if_pos agreed]
    rw [show s.accept.phyAnswer s.regs.arg0 = true from agreed] at trace
    have accepted' : s.accept.opened.Accepted := ⟨accepted.late, accepted.ovf, accepted.aborted, accepted.reject⟩
    exact ⟨rfl, readsAsIn_finish (fun _ => peek_opened) _ _, rfl, acceptedAndDone_finish accepted' _ _, rfl, rfl, trace⟩
  · have refused : s.accept.phyAnswer s.accept.regs.arg0 = false := Bool.eq_false_iff.2 agreed
    rw [runOpen_of_refused closed refused, if_neg agreed]
    rw [show s.accept.phyAnswer s.regs.arg0 = false from refused] at trace
    exact ⟨rfl, readsAsIn_finish (fun a _ => peek_phyOpen _ a) _ _, rfl,
      acceptedAndDone_finish (accepted_phyOpen accepted _) _ _, closed, rfl, trace⟩

/-- Settles O20: connected or not, `runClose` completes with OK. -/
theorem closeAlwaysSucceeds : Obligations.CloseAlwaysSucceeds := by
  refine ⟨issuedAs_of_exec_eq_issue rfl exec_close, fun s free => ⟨s.accept.runClose, ?runs, ?_⟩⟩
  case runs => rw [exec_close, issue_of_free free]
  have accepted := accepted_accept s
  by_cases conn : s.regs.conn = true
  · rw [runClose_of_conn (s := s.accept) conn, if_pos conn]
    have accepted' : s.accept.closed.Accepted := ⟨accepted.late, accepted.ovf, accepted.aborted, accepted.reject⟩
    exact ⟨acceptedAndDone_finish accepted' _ _, rfl, rfl, rfl, readsAsIn_finish (fun _ => peek_closed) _ _, rfl⟩
  · have closed : s.accept.regs.conn = false := Bool.eq_false_iff.2 conn
    rw [runClose_of_no_conn closed, if_neg conn]
    exact ⟨acceptedAndDone_finish accepted _ _, closed, rfl, rfl, readsAsIn_finish (fun _ _ => rfl) _ _, rfl⟩

end Sys2Proof.Machine
end

section
/-! PROOFS. The transaction commands READ, WRITE and RAW at issue (42_transaction.md R134 to R137): the refusals, and the
start of a transaction. -/

namespace Sys2Proof.Machine

open Sys2Proof.Claims

/-! ### A command refused with a code -/

theorem refusedAtIssue_finish (s : State) (op : BitVec 4) (c : Code) :
    RefusedAtIssue s (s.accept.finish op c) (Record.word ⟨op, c⟩) :=
  ⟨acceptedAndDone_finish (accepted_accept s) op c, rfl, rfl, rfl, rfl, readsAsIn_finish (fun _ _ => rfl) op c⟩

/-! ### A transaction started (R134) -/

/-- A transaction started in a state u that has kept, since s, all that a start keeps. -/
theorem started_startXact {s u : State} (accepted : u.Accepted) (not_done : u.regs.done = false)
    (guard : u.regs.guard = s.regs.guard) (result : u.regs.result = s.regs.result) (conn : u.regs.conn = s.regs.conn)
    (rx : u.bufs.rx = s.bufs.rx) (regval : u.bufs.regval = s.bufs.regval) (env : u.env = s.env) (op : XOp) :
    Started s (u.startXact op) op where
  accepted := accepted_startXact accepted op
  not_done := by rw [startXact_regs_done, not_done]
  xop := startXact_arb_xop u op
  txptr := startXact_arb_txptr u op
  rxlen := startXact_regs_rxlen u op
  nregs := startXact_regs_nregs u op
  phase := by
    rw [startXact_phase, startXact_gcnt, guard]
    split_ifs
    · rfl
    · exact ⟨rfl, rfl⟩
  result := by rw [startXact_regs_result, result]
  conn := by rw [startXact_regs_conn, conn]
  rx := by rw [startXact_bufs, rx]
  regval := by rw [startXact_bufs, regval]
  env := by rw [startXact_env, env]

/-- The start of a transaction shows in STATUS, RXLEN and NREGS alone. -/
theorem peek_startXact (s : State) (op : XOp) {a : HostAddr} (status : a.toNat ≠ 0x001) (rxlen : a.toNat ≠ 0x00B)
    (nregs : a.toNat ≠ 0x00E) : (s.startXact op).peek a = s.peek a := by
  have epoch := congrArg Env.epoch (startXact_env s op)
  apply peek_congr (status := fun h => absurd h status) (rxlen := fun h => absurd h rxlen)
    (nregs := fun h => absurd h nregs)
    (tx := fun i _ _ => txByte_congr (congrArg Buffers.tx (startXact_bufs s op)) epoch i)
    (rx := fun i _ _ => rxByte_congr (congrArg Buffers.rx (startXact_bufs s op)) epoch i)
    (regval := fun i _ _ => regvalWord_congr (congrArg Buffers.regval (startXact_bufs s op)) epoch i) <;>
    intros <;> simp

/-! ### A request encoded and its transaction started (R135, R136) -/

theorem map_byteAt_range (bs : List Byte) : (List.range bs.length).map (byteAt bs) = bs := by
  apply List.ext_getElem
  · simp
  · intro i _ h
    simp [byteAt_eq_getElem bs h]

/-- TXBUF[0..TXLEN) after `enc_frame` is the frame (R111). -/
theorem txBytes_encFrame (s : State) (f : Byte) :
    (s.encFrame f).txBytes = shortFrame s.regs.slave f s.regs.arg0 s.regs.arg1 := by
  conv_rhs => rw [← map_byteAt_range (shortFrame ..), length_shortFrame]
  refine List.map_congr_left fun i h => ?_
  have inside : i < 8 := List.mem_range.1 h
  rw [txByte_encFrame, if_pos inside]

section Encoded

variable (s : State) (f : Byte) (op : XOp)

/-- READ and WRITE, once their checks at issue have passed. -/
def State.startRequest : State := (s.accept.encFrame f).startXact op

theorem started_startRequest : Started s (s.startRequest f op) op :=
  started_startXact (s := s) (accepted_encFrame (accepted_accept s) f) rfl rfl rfl rfl rfl rfl rfl op

theorem txBytes_startRequest :
    (s.startRequest f op).txBytes = shortFrame s.regs.slave f s.regs.arg0 s.regs.arg1 := by
  rw [State.startRequest, txBytes_congr (s := s.accept.encFrame f) (by simp) (by simp) (by simp), txBytes_encFrame]
  rfl

theorem peek_crc_startRequest :
    (s.startRequest f op).peek 0x00C#10 = crc16 (header s.regs.slave f s.regs.arg0 s.regs.arg1) := by
  rw [peek_crc, State.startRequest, startXact_regs_crc]
  rfl

theorem readsAsIn_startRequest :
    (s.startRequest f op).readsAsIn s
      [0x001, 0x003, 0x00A, 0x00B, 0x00C, 0x00E, 0x100, 0x101, 0x102, 0x103, 0x104, 0x105, 0x106, 0x107] := by
  intro a unchanged
  simp only [List.mem_cons, List.not_mem_nil, or_false, not_or] at unchanged
  obtain ⟨status, reject, txlen, rxlen, crc, nregs, frame⟩ := unchanged
  rw [State.startRequest, peek_startXact _ op status rxlen nregs, peek_encFrame _ f txlen crc (by omega),
    peek_accept s status reject]

end Encoded

/-! ### The obligations -/

theorem exec_read (s : State) : exec .read s = .next (s.issue 0x7#4 State.runRead) := rfl

theorem exec_write (s : State) : exec .write s = .next (s.issue 0x8#4 State.runWrite) := rfl

theorem exec_raw (s : State) : exec .raw s = .next (s.issue 0x9#4 State.runRaw) := rfl

/-- READ with BUSY = 0, by its checks at issue (R135). -/
theorem exec_read_of_free {s : State} (free : s.busy = false) :
    exec .read s = .next (
      if s.regs.conn = false then s.accept.finish 0x7#4 .notConnected
      else if s.regs.arg1 = 0#16 ∨ 125 < s.regs.arg1.toNat then s.accept.finish 0x7#4 .outOfRange
      else s.startRequest 0x03#8 .read) := by
  simp only [exec_read, issue_of_free free, State.runRead, Bool.not_eq_true']
  rfl

/-- WRITE with BUSY = 0, by its check at issue (R136). -/
theorem exec_write_of_free {s : State} (free : s.busy = false) :
    exec .write s = .next (
      if s.regs.conn = false then s.accept.finish 0x8#4 .notConnected else s.startRequest 0x06#8 .write) := by
  simp only [exec_write, issue_of_free free, State.runWrite, Bool.not_eq_true']
  rfl

/-- RAW with BUSY = 0, by its checks at issue (R137). -/
theorem exec_raw_of_free {s : State} (free : s.busy = false) :
    exec .raw s = .next (
      if s.regs.conn = false then s.accept.finish 0x9#4 .notConnected
      else if s.regs.txlen = 0#9 then s.accept.finish 0x9#4 .outOfRange
      else s.accept.startXact .raw) := by
  simp only [exec_raw, issue_of_free free, State.runRaw, Bool.not_eq_true']
  rfl

/-- Settles O21, by the checks of READ at issue. -/
theorem readAtIssue : Obligations.ReadAtIssue := by
  refine ⟨issuedAs_of_exec_eq_issue rfl exec_read, fun s free => ⟨_, exec_read_of_free free, ?_⟩⟩
  split_ifs
  · exact refusedAtIssue_finish s 0x7#4 .notConnected
  · exact refusedAtIssue_finish s 0x7#4 .outOfRange
  · exact ⟨started_startRequest .., txBytes_startRequest .., peek_crc_startRequest .., readsAsIn_startRequest s _ _⟩

/-- Settles O22, by the check of WRITE at issue. -/
theorem writeAtIssue : Obligations.WriteAtIssue := by
  refine ⟨issuedAs_of_exec_eq_issue rfl exec_write, fun s free => ⟨_, exec_write_of_free free, ?_⟩⟩
  split_ifs
  · exact refusedAtIssue_finish s 0x8#4 .notConnected
  · exact ⟨started_startRequest .., txBytes_startRequest .., peek_crc_startRequest .., readsAsIn_startRequest s _ _⟩

/-- Settles O23, by the checks of RAW at issue; nothing is encoded. -/
theorem rawAtIssue : Obligations.RawAtIssue := by
  refine ⟨issuedAs_of_exec_eq_issue rfl exec_raw, fun s free => ⟨_, exec_raw_of_free free, ?_⟩⟩
  split_ifs
  · exact refusedAtIssue_finish s 0x9#4 .notConnected
  · exact refusedAtIssue_finish s 0x9#4 .outOfRange
  · refine ⟨started_startXact (s := s) (accepted_accept s) rfl rfl rfl rfl rfl rfl rfl .raw, startXact_bufs _ _, ?_⟩
    intro a unchanged
    simp only [List.mem_cons, List.not_mem_nil, or_false, not_or] at unchanged
    obtain ⟨status, reject, rxlen, nregs⟩ := unchanged
    rw [peek_startXact _ _ status rxlen nregs, peek_accept s status reject]

end Sys2Proof.Machine
end

section
/-! PROOFS. What the host reads at each address (10_state.md R23 to R27, R40, R41; 20_memory.md R62): STATUS, RESULT and
REJECT bit by bit. -/

namespace Sys2Proof.Machine

/-! ### The bits of STATUS (R25) -/

/-- A flag at bit i of a word is that bit, and no other. -/
theorem getLsbD_flagBit (b : Bool) {i j : Nat} (h : j < 16) : (flagBit b i).getLsbD j = (b && decide (i = j)) := by
  cases b
  · simp [flagBit]
  · have one : ∀ k, (1#16).getLsbD k = decide (k = 0) := fun k => by simp [BitVec.getLsbD_one]
    simp only [flagBit, if_true, BitVec.getLsbD_shiftLeft, h, one, Bool.true_and]
    by_cases same : i = j
    · simp [same]
    · simp [same]
      omega

section Status

variable (s : State)

/-- A bit below 8 of STATUS is a flag, for PHASE begins at bit 8. -/
theorem getLsbD_status_of_lt {j : Nat} (h : j < 8) :
    s.status.getLsbD j =
      (s.busy && decide (0 = j) || s.regs.conn && decide (1 = j) || s.regs.done && decide (2 = j) ||
        s.err && decide (3 = j) || s.rej && decide (4 = j) || s.regs.late && decide (5 = j) ||
        s.regs.ovf && decide (6 = j) || s.regs.aborted && decide (7 = j)) := by
  have h16 : j < 16 := by omega
  simp [State.status, getLsbD_flagBit _ h16, h]

/-- A bit of STATUS from 8 on is PHASE's. -/
theorem getLsbD_status_of_ge {j : Nat} (h : 8 ≤ j) (h16 : j < 16) :
    s.status.getLsbD j = s.arb.phase.bits.getLsbD (j - 8) := by
  have notFlag : ∀ i < 8, decide (i = j) = false := fun i hi => decide_eq_false (by omega)
  have h11 : j - 8 < 16 := by omega
  simp only [State.status, BitVec.getLsbD_or, getLsbD_flagBit _ h16, notFlag, Nat.reduceLT, Nat.ofNat_pos, Bool.and_false,
    Bool.false_or, BitVec.getLsbD_shiftLeft, BitVec.getLsbD_setWidth, h16, not_lt.2 h, h11, decide_true, decide_false,
    Bool.not_false, Bool.true_and]

/-- PHASE is in bits 10:8 (R25, R41). -/
theorem extractLsb'_status_phase : s.status.extractLsb' 8 3 = s.arb.phase.bits := by
  apply BitVec.eq_of_getLsbD_eq
  intro i h
  rw [BitVec.getLsbD_extractLsb', decide_eq_true h, Bool.true_and,
    getLsbD_status_of_ge s (Nat.le_add_right 8 i) (by omega), Nat.add_sub_cancel_left]

/-- Bits 15:11 read as 0 (R25). -/
theorem extractLsb'_status_top : s.status.extractLsb' 11 5 = 0#5 := by
  apply BitVec.eq_of_getLsbD_eq
  intro i h
  rw [BitVec.getLsbD_extractLsb', decide_eq_true h, Bool.true_and, getLsbD_status_of_ge s (by omega) (by omega),
    BitVec.getLsbD_of_ge _ _ (by omega), BitVec.getLsbD_zero]

theorem bits_ne_zero_iff (c : Code) : (c.bits != 0) = true ↔ c ≠ .ok := by cases c <;> decide

theorem err_iff : s.err = true ↔ s.regs.result.code ≠ .ok := bits_ne_zero_iff s.regs.result.code

theorem rej_iff : s.rej = true ↔ s.regs.reject.code ≠ .ok := bits_ne_zero_iff s.regs.reject.code

end Status

/-! ### RESULT and REJECT (R26, R27) -/

theorem readsRecord_word (r : Record) : Claims.ReadsRecord r.word r := by
  refine ⟨?code, ?op, ?rest⟩
  all_goals
    apply BitVec.eq_of_getLsbD_eq
    intro i h
    simp only [Record.word, BitVec.getLsbD_extractLsb', BitVec.getLsbD_or, BitVec.getLsbD_shiftLeft,
      BitVec.getLsbD_setWidth, decide_eq_true h, Bool.true_and]
  case code =>
    have low : i < 16 := by omega
    simp [low, h]
  case op =>
    have low : 4 + i < 16 := by omega
    have left : i < 16 := by omega
    simp [low, left]
  case rest =>
    have left : 8 + i - 4 = 4 + i := by omega
    simp [left, BitVec.getLsbD_of_ge r.code.bits (8 + i) (by omega)]

/-! ### A host read as an event (R62) -/

theorem peek_emit (s : State) (o : Output) (a : HostAddr) : (s.emit o).peek a = s.peek a :=
  peek_congr_of_fields (emit_regs s o) (emit_bufs s o) rfl (emit_env_epoch s o) a

/-- Settles O26: the map of `peek`, address by address, and a read that is one more entry in the record of outputs. -/
theorem hostReadReturnsTheMap : Obligations.HostReadReturnsTheMap := by
  refine ⟨rfl, rfl, fun s => ⟨?status, readsRecord_word _, readsRecord_word _,
    ⟨rfl, rfl, rfl, rfl, rfl, rfl, rfl, rfl, rfl, rfl, rfl, rfl, rfl, rfl, rfl⟩,
    fun i h => peek_txbuf s h, fun i h => peek_rxbuf s h, fun i h => peek_regval s h, fun a => peek_reserved s,
    fun a => ⟨rfl, fun b => peek_emit s _ b⟩⟩⟩
  have bit (j : Fin 8) := getLsbD_status_of_lt s j.isLt
  refine ⟨?b0, busy_eq_true_iff, ?b1, ?b2, ?b3, ?b4, ?b5, ?b6, ?b7, extractLsb'_status_phase s, extractLsb'_status_top s⟩
  case b0 => simpa using bit 0
  case b1 => simpa using bit 1
  case b2 => simpa using bit 2
  case b3 => rw [← err_iff]; simpa using bit 3
  case b4 => rw [← rej_iff]; simpa using bit 4
  case b5 => simpa using bit 5
  case b6 => simpa using bit 6
  case b7 => simpa using bit 7

end Sys2Proof.Machine
end

section
/-! PROOFS. A step of the machine (10_state.md R45, 20_memory.md R69, R73): the instruction or the reaction it is, that
there always is one, and the events that are out of place (60_exceptions.md R183), link loss (42_transaction.md R155) and
reset (70_reset_and_hazards.md R190). -/

namespace Sys2Proof.Machine

/-! ### Every instruction and every step goes on (60_exceptions.md R180, R182) -/

theorem exec_goes_on (i : Instr) (s : State) : ∃ t, exec i s = .next t := by
  cases i <;> exact ⟨_, rfl⟩

/-- Settles O52: with no event, with an instruction, or with an event that carries none. -/
theorem everyStepGoesOn : Obligations.EveryStepGoesOn := by
  intro s
  rcases next : nextEvent s.env.clocks with _ | ⟨e, cs⟩
  · exact ⟨s, step_of_no_event next⟩
  rcases carried : e.instr with _ | i
  · exact ⟨_, step_of_event next carried⟩
  · rw [step_of_instr next carried]
    exact exec_goes_on i _

/-- Settles O50. -/
theorem stepAppliesOneEvent : Obligations.StepAppliesOneEvent := fun _ _ _ next carried => step_of_event next carried

theorem instr_of_packet {e : Event} {p : Packet} {i : Instr} (packet : e.packet = some p) (read : decode p = .ok i) :
    e.instr = some i := by
  rw [Event.instr, packet, Option.bind_some, read]
  rfl

/-- Settles O49: a presented packet is the event of a clock of its own. -/
theorem stepRunsDecodedInstruction : Obligations.StepRunsDecodedInstruction :=
  ⟨fun _ _ _ _ _ next packet read => step_of_instr next (instr_of_packet packet read), fun _ => rfl,
    fun s p _ read => step_of_instr (nextEvent_single (packetEvent p) s.env.clocks)
      (instr_of_packet (packet_packetEvent p) read)⟩

/-! ### What a step is: a command, or the core's reaction to an event -/

/-- The state with the clocks still to come after its event has been taken. -/
def State.withClocks (s : State) (cs : List (List Event)) : State := { s with env.clocks := cs }

@[simp] theorem withClocks_regs (s : State) (cs : List (List Event)) : (s.withClocks cs).regs = s.regs := rfl
@[simp] theorem withClocks_bufs (s : State) (cs : List (List Event)) : (s.withClocks cs).bufs = s.bufs := rfl
@[simp] theorem withClocks_arb (s : State) (cs : List (List Event)) : (s.withClocks cs).arb = s.arb := rfl
@[simp] theorem withClocks_epoch (s : State) (cs : List (List Event)) : (s.withClocks cs).env.epoch = s.env.epoch := rfl
@[simp] theorem busy_withClocks (s : State) (cs : List (List Event)) : (s.withClocks cs).busy = s.busy := rfl

/-- A request frame that is an instruction is taken as the bytes it is. -/
theorem exec_of_decodeRequest {bs : List Byte} {i : Instr} (read : decodeRequest bs = .ok i) (s : State) :
    exec i s = .next (s.onTakeFrame bs) := by
  obtain ⟨a, x, y, ⟨rfl, rfl⟩ | ⟨rfl, rfl⟩⟩ := decodeRequest_eq_ok_iff.1 read <;> rfl

/-- A response frame that is an instruction is delivered as the bytes it is. -/
theorem exec_of_decodeResponse {bs : List Byte} {i : Instr} (read : Sys2Proof.decodeResponse bs = .ok i) (s : State) :
    exec i s = .next (s.onRxFrame bs) := by
  obtain ⟨a, ws, -, rfl, rfl⟩ | ⟨a, x, y, rfl, rfl⟩ := decodeResponse_eq_ok_iff.1 read <;> rfl

/-- The instruction of an event is a command written to CMD, or acts as the event itself does. -/
theorem exec_of_instr {e : Event} {i : Instr} (carried : e.instr = some i) (s : State) :
    (∃ w, e = .hostWrite 0#10 w ∧ i = decodeCommand w) ∨
      (∀ w, e ≠ .hostWrite 0#10 w) ∧ exec i s = .next (s.react e) := by
  unfold Event.instr at carried
  cases e with
  | hostWrite a w =>
    by_cases cmd : a = 0#10
    · subst cmd
      exact .inl ⟨w, rfl, (Option.some.inj carried).symm⟩
    · simp [Event.packet, cmd] at carried
  | rxFrame bs =>
    cases read : Sys2Proof.decodeResponse bs with
    | error _ => simp [Event.packet, decode, read, Except.toOption] at carried
    | ok j =>
      obtain rfl : j = i := by simpa [Event.packet, decode, read, Except.toOption] using carried
      exact .inr ⟨nofun, exec_of_decodeResponse read s⟩
  | takeFrame bs =>
    cases read : decodeRequest bs with
    | error _ => simp [Event.packet, decode, read, Except.toOption] at carried
    | ok j =>
      obtain rfl : j = i := by simpa [Event.packet, decode, read, Except.toOption] using carried
      exact .inr ⟨nofun, exec_of_decodeRequest read s⟩
  | _ => cases carried

/-- A step is nothing, a command written to CMD, or the core's reaction to another event. -/
theorem step_inversion {s t : State} (h : step s = .next t) :
    nextEvent s.env.clocks = none ∧ t = s ∨
    ∃ e cs, nextEvent s.env.clocks = some (e, cs) ∧
      ((∃ w, e = .hostWrite 0#10 w ∧ exec (decodeCommand w) (s.withClocks cs) = .next t) ∨
        (∀ w, e ≠ .hostWrite 0#10 w) ∧ t = (s.withClocks cs).react e) := by
  obtain none | ⟨e, cs, next, ⟨carried, reacts⟩ | ⟨i, carried, runs⟩⟩ := step_cases h
  · exact .inl none
  · refine .inr ⟨e, cs, next, .inr ⟨?_, reacts⟩⟩
    rintro w rfl
    cases carried
  · refine .inr ⟨e, cs, next, ?_⟩
    obtain ⟨w, rfl, rfl⟩ | ⟨notCommand, reacts⟩ := exec_of_instr carried (s.withClocks cs)
    · exact .inl ⟨w, rfl, runs⟩
    · exact .inr ⟨notCommand, (Host.Outcome.next.inj (reacts.symm.trans runs)).symm⟩

/-! ### Events out of place (R183) -/

/-- Settles O37: the frame is not what is offered. -/
theorem unofferedRequestIsNotTaken : Obligations.UnofferedRequestIsNotTaken :=
  fun _ _ _ _ => ⟨fun other => congrArg Host.Outcome.next (if_neg other),
    fun other => congrArg Host.Outcome.next (if_neg other)⟩

theorem onLinkLost_of_no_conn {s : State} (conn : s.regs.conn = false) : s.onLinkLost = s :=
  if_neg (Bool.eq_false_iff.1 conn)

/-- Settles O41, event by event. -/
theorem phyEventsOutOfPlaceAreInert : Obligations.PhyEventsOutOfPlaceAreInert := by
  intro s e barred
  cases e with
  | txTake => exact onTxTake_of_ne_tx (beq_eq_false_iff_ne.1 barred)
  | txError => exact onTxError_of_ne_tx (beq_eq_false_iff_ne.1 barred)
  | takeFrame bs => exact if_neg (beq_eq_false_iff_ne.1 barred)
  | linkLost => exact onLinkLost_of_no_conn barred
  | _ => cases barred

/-! ### Link loss (R155) -/

/-- The state with the handle lost. -/
def State.disconnected (s : State) : State := { s with regs.conn := false }

theorem onLinkLost_of_conn {s : State} (conn : s.regs.conn = true) :
    s.onLinkLost =
      if s.arb.xop = .none then s.disconnected else s.disconnected.clearNregs.endXact .notConnected := by
  rw [State.onLinkLost, if_pos conn]
  exact ite_not ..

/-- Settles O42: no handle, a handle alone, or a transaction in flight. -/
theorem linkLossDisconnects : Obligations.LinkLossDisconnects := by
  intro s
  change s.onLinkLost = _
  split_ifs with conn none
  · exact onLinkLost_of_no_conn conn
  · rw [onLinkLost_of_conn (Bool.not_eq_false _ ▸ conn), if_pos none]
    rfl
  · rw [onLinkLost_of_conn (Bool.not_eq_false _ ▸ conn), if_neg none]
    rfl

/-! ### Reset (R190) -/

/-- STATUS depends on the registers and PHASE alone. -/
theorem status_congr {s t : State} (regs : t.regs = s.regs) (phase : t.arb.phase = s.arb.phase) :
    t.status = s.status := by
  simp only [State.status, State.busy, State.err, State.rej, regs, phase]

theorem onReset_regs (s : State) : s.onReset.regs = Regs.reset := rfl

theorem onReset_arb (s : State) : s.onReset.arb = Arbiter.reset := rfl

/-- Settles O43: reset is the reset state, but for the environment, which records the call of the PHY. -/
theorem resetSetsEveryRegister : Obligations.ResetSetsEveryRegister := by
  intro s
  have trace : s.onReset.env.trace = if s.regs.conn = true then s.env.trace ++ [.closePort] else s.env.trace := by
    unfold State.onReset
    dsimp only
    split_ifs <;> rfl
  have status : s.onReset.peek 0x001#10 = 0x0000#16 := by
    rw [peek_status, status_congr (s := State.reset) (t := s.onReset) rfl rfl]
    decide
  have result : s.onReset.peek 0x002#10 = 0x0000#16 := by
    rw [peek_result, onReset_regs]
    decide
  have reject : s.onReset.peek 0x003#10 = 0x0000#16 := by
    rw [peek_reject, onReset_regs]
    decide
  exact ⟨status, result, reject, rfl, rfl, rfl, rfl, rfl, rfl, rfl, rfl, rfl, rfl, rfl, rfl, rfl, rfl, rfl, trace⟩

end Sys2Proof.Machine
end

section
/-! PROOFS. Phase TX and what comes of it: the frame's bytes taken one by one or whole (42_transaction.md R142, R145;
30_encoding.md R84, R86), and the response time run down (R145). -/

namespace Sys2Proof.Machine

/-! ### The response timer (R145) -/

section Wait

variable {s : State}

/-- The state with `c` ticks of response time left. -/
def State.withTocnt (s : State) (c : Word) : State := { s with arb.tocnt := c }

theorem onTick_of_wait (h : s.arb.phase = .wait) : s.onTick = s.tickWait := by simp only [State.onTick, h]

theorem tickWait_withTocnt (c : Word) :
    (s.withTocnt c).tickWait =
      if c - 1#16 = 0#16 then (s.withTocnt (c - 1#16)).endXact .responseTimeout else s.withTocnt (c - 1#16) := rfl

theorem onTick_withTocnt (wait : s.arb.phase = .wait) (c : Word) (h : 1 < c.toNat) :
    (s.withTocnt c).onTick = s.withTocnt (c - 1#16) := by
  rw [onTick_of_wait (s := s.withTocnt c) wait, tickWait_withTocnt, if_neg (sub_one_ne_zero_of_one_lt h)]

theorem onTick_withTocnt_one (wait : s.arb.phase = .wait) :
    (s.withTocnt 1#16).onTick = (s.withTocnt 0#16).endXact .responseTimeout := by
  rw [onTick_of_wait (s := s.withTocnt 1#16) wait, tickWait_withTocnt, BitVec.sub_self, if_pos rfl]

end Wait

/-- Settles O31: TOCNT is a timer, and the tick that ends it ends the transaction. -/
theorem waitTimesOutAtItsTick : Obligations.WaitTimesOutAtItsTick := by
  intro s wait running
  have runs := onTick_withTocnt wait
  exact ⟨fun m h => tickMany_timer runs s.arb.tocnt h,
    (tickMany_timer_expires runs running).trans (onTick_withTocnt_one wait)⟩

/-! ### Bytes taken (R142) -/

/-- The last of n + 1 takes meets the state after the first n. -/
theorem takeMany_succ_eq_onTxTake (n : Nat) (s : State) : State.takeMany (n + 1) s = (State.takeMany n s).onTxTake := by
  induction n generalizing s with
  | zero => rfl
  | succ n ih => exact ih s.onTxTake

section Take

variable {s : State}

theorem onTxTake_of_tx (h : s.arb.phase = .tx) : s.onTxTake = s.takeTx := by simp only [State.onTxTake, h]

/-- The bytes of TXBUF that the next m takes of a frame put out. -/
def State.nextBytes (s : State) (m : Nat) : List Byte := (List.range m).map fun k => s.txByte (s.arb.txptr.toNat + k)

theorem nextBytes_succ (m : Nat) : s.nextBytes (m + 1) = s.nextBytes m ++ [s.txByte (s.arb.txptr.toNat + m)] := by
  rw [State.nextBytes, List.range_succ, List.map_append]
  rfl

/-- The state with m bytes put out and TXPTR moved past them. -/
def State.sent (s : State) (m : Nat) : State :=
  { s with
    arb.txptr := s.arb.txptr + BitVec.ofNat 9 m
    env.trace := s.env.trace ++ (s.nextBytes m).map .send }

@[simp] theorem sent_regs (m : Nat) : (s.sent m).regs = s.regs := rfl
@[simp] theorem sent_bufs (m : Nat) : (s.sent m).bufs = s.bufs := rfl
@[simp] theorem sent_phase (m : Nat) : (s.sent m).arb.phase = s.arb.phase := rfl

theorem sent_zero : s.sent 0 = s := by
  simp [State.sent, State.nextBytes]

theorem toNat_txptr_sent {m : Nat} (h : s.arb.txptr.toNat + m < 512) :
    (s.sent m).arb.txptr.toNat = s.arb.txptr.toNat + m := by
  show (s.arb.txptr + BitVec.ofNat 9 m).toNat = _
  rw [BitVec.toNat_add, BitVec.toNat_ofNat]
  omega

/-- Where phase TX goes once the frame's last byte is out (R142, R145). -/
def State.leaveTx (s : State) : State := if 0 < s.regs.rxlen.toNat then s.enterAccum else s.enterWait

/-- The state with the offered byte put out and TXPTR moved past it. -/
def State.sentOne (s : State) : State := { s.emit (.send s.txData) with arb.txptr := s.arb.txptr + 1#9 }

theorem takeTx_eq : s.takeTx = if s.sentOne.arb.txptr = s.regs.txlen then s.sentOne.leaveTx else s.sentOne := rfl

theorem sentOne_sent {m : Nat} (h : s.arb.txptr.toNat + m < 512) : (s.sent m).sentOne = s.sent (m + 1) := by
  have ptr : (s.sent m).arb.txptr + 1#9 = s.arb.txptr + BitVec.ofNat 9 (m + 1) := by
    rw [BitVec.ofNat_add, ← BitVec.add_assoc]
    rfl
  have data : (s.sent m).txData = s.txByte (s.arb.txptr.toNat + m) := by
    rw [State.txData, toNat_txptr_sent h]
    rfl
  have trace : (s.sent m).env.trace ++ [.send (s.sent m).txData] = s.env.trace ++ (s.nextBytes (m + 1)).map .send := by
    rw [nextBytes_succ, data, List.map_append, ← List.append_assoc]
    rfl
  calc (s.sent m).sentOne
      = { s with
          arb.txptr := (s.sent m).arb.txptr + 1#9
          env.trace := (s.sent m).env.trace ++ [.send (s.sent m).txData] } := rfl
    _ = s.sent (m + 1) := by rw [ptr, trace]; rfl

theorem toNat_txptr_sentOne (left : s.arb.txptr.toNat < s.regs.txlen.toNat) :
    s.sentOne.arb.txptr.toNat = s.arb.txptr.toNat + 1 := by
  have bound := s.regs.txlen.isLt
  have one : s.sentOne = s.sent 1 := by rw [← sentOne_sent (by omega), sent_zero]
  rw [one, toNat_txptr_sent (by omega)]

/-- One more take: the next byte goes out, and the last one ends the phase. -/
theorem takeTx_sent {m : Nat} (h : s.arb.txptr.toNat + m < s.regs.txlen.toNat) :
    (s.sent m).takeTx =
      if s.arb.txptr.toNat + (m + 1) = s.regs.txlen.toNat then (s.sent (m + 1)).leaveTx else s.sent (m + 1) := by
  have bound := s.regs.txlen.isLt
  have last : (s.sent (m + 1)).arb.txptr = s.regs.txlen ↔ s.arb.txptr.toNat + (m + 1) = s.regs.txlen.toNat := by
    rw [← BitVec.toNat_inj, toNat_txptr_sent (by omega)]
  rw [takeTx_eq, sentOne_sent (by omega)]
  exact if_congr last rfl rfl

/-- Until the frame's last byte, takes put its bytes out and change nothing else. -/
theorem takeMany_sent (tx : s.arb.phase = .tx) {m : Nat} (h : s.arb.txptr.toNat + m < s.regs.txlen.toNat) :
    State.takeMany m s = s.sent m := by
  induction m with
  | zero => exact sent_zero.symm
  | succ m ih =>
    rw [takeMany_succ_eq_onTxTake, ih (by omega), onTxTake_of_tx (s := s.sent m) tx, takeTx_sent (by omega),
      if_neg (by omega)]

/-- The take of the frame's last byte ends the phase. -/
theorem takeMany_last (tx : s.arb.phase = .tx) {m : Nat} (h : s.arb.txptr.toNat + (m + 1) = s.regs.txlen.toNat) :
    State.takeMany (m + 1) s = (s.sent (m + 1)).leaveTx := by
  rw [takeMany_succ_eq_onTxTake, takeMany_sent tx (by omega), onTxTake_of_tx (s := s.sent m) tx, takeTx_sent (by omega),
    if_pos h]

theorem rxlen_pos_iff : 0 < s.regs.rxlen.toNat ↔ s.regs.rxlen ≠ 0#9 := by
  rw [Nat.pos_iff_ne_zero, ne_eq, ne_eq, ← BitVec.toNat_inj]
  rfl

/-- What the end of the phase leaves, once all the bytes are out. -/
theorem leavesTx_sent {m : Nat} (h : s.arb.txptr.toNat + m = s.regs.txlen.toNat) :
    Claims.LeavesTx s (s.sent m).leaveTx (s.nextBytes m) := by
  have bound := s.regs.txlen.isLt
  have ptr : s.arb.txptr + BitVec.ofNat 9 m = s.regs.txlen := by
    apply BitVec.eq_of_toNat_eq
    rw [BitVec.toNat_add, BitVec.toNat_ofNat]
    omega
  have goes : (s.sent m).leaveTx =
      if s.regs.rxlen ≠ 0#9 then (s.sent m).enterAccum
      else if s.regs.timeout = 0#16 then (s.sent m).endXact .responseTimeout
      else { s.sent m with arb.tocnt := s.regs.timeout, arb.phase := .wait } := by
    rw [State.leaveTx, State.enterWait]
    exact if_congr rxlen_pos_iff rfl rfl
  rw [goes]
  split_ifs with received timeout
  all_goals refine ⟨rfl, rfl, ?_⟩
  · rw [if_pos received, ← ptr]
    exact ⟨rfl, rfl⟩
  · rw [if_neg received, if_pos timeout]
    exact ⟨rfl, rfl⟩
  · rw [if_neg received, if_neg timeout, ← ptr]
    exact ⟨rfl, rfl⟩

/-- A frame, or what is left of it, taken whole. -/
theorem leavesTx_takeMany (tx : s.arb.phase = .tx) (left : s.arb.txptr.toNat < s.regs.txlen.toNat) {n : Nat}
    (h : s.arb.txptr.toNat + n = s.regs.txlen.toNat) : Claims.LeavesTx s (State.takeMany n s) (s.nextBytes n) := by
  obtain ⟨m, rfl⟩ : ∃ m, n = m + 1 := Nat.exists_eq_succ_of_ne_zero (by omega)
  rw [takeMany_last tx h]
  exact leavesTx_sent h

end Take

/-- Settles O35, take by take. -/
theorem frameIsSentInOrder : Obligations.FrameIsSentInOrder := by
  intro s tx left n taken
  exact ⟨fun m h => takeMany_sent tx (by omega), leavesTx_takeMany tx left (by omega)⟩

/-! ### A request frame taken whole (log 7) -/

/-- A frame at byte 0 offers all of TXBUF[0..TXLEN). -/
theorem offered_of_tx {s : State} (tx : s.arb.phase = .tx) (first : s.arb.txptr = 0#9) : s.offered = s.txBytes := by
  simp only [State.offered, tx, first, State.txBytes, List.range_eq_range']
  rfl

/-- A frame instruction that takes exactly its bytes sends them. -/
theorem sends_of_exec {i : Instr} {bs : List Byte} (long : 0 < bs.length)
    (runs : ∀ s, exec i s = .next (s.onTakeFrame bs)) : Claims.Sends i bs := by
  intro s tx first length held
  have offered : s.offered = bs := by rw [offered_of_tx tx first, held]
  have ptr : s.arb.txptr.toNat = 0 := by rw [first]; rfl
  have bytes : s.nextBytes bs.length = bs := by
    rw [State.nextBytes, ← length, ← held, State.txBytes]
    simp [ptr]
  refine ⟨State.takeMany bs.length s, by rw [runs, State.onTakeFrame, if_pos offered], ?_⟩
  have leaves := leavesTx_takeMany tx (by omega) (n := bs.length) (by omega)
  rwa [bytes] at leaves

/-- Settles O36: the two request frames of the wire, of 8 bytes each. -/
theorem requestFramesAreSent : Obligations.RequestFramesAreSent :=
  ⟨fun _ _ _ => sends_of_exec (by simp) fun _ => rfl, fun _ _ _ => sends_of_exec (by simp) fun _ => rfl⟩

end Sys2Proof.Machine
end

section
/-! PROOFS. Bytes received (42_transaction.md R141, R144, R145, R147, R149): one byte, and a response frame delivered
whole (30_encoding.md R85, R87; log 8). -/

namespace Sys2Proof.Machine

/-! ### One byte -/

section Byte

variable {s : State}

theorem onRxByte_of_tx (h : s.arb.phase = .tx) (b : Byte) : s.onRxByte b = s.rxStore b := by
  simp only [State.onRxByte, h]

/-- The phases that store a byte and go on in ACCUM (R145, R147). -/
theorem onRxByte_of_listening (h : s.arb.phase = .wait ∨ s.arb.phase = .accum) (b : Byte) :
    s.onRxByte b = (s.rxStore b).enterAccum := by
  rcases h with h | h <;> simp only [State.onRxByte, h]

/-- The phases that discard a byte (R141, R149). -/
theorem onRxByte_of_discarding (h : s.arb.phase = .idle ∨ s.arb.phase = .guard) (b : Byte) :
    s.onRxByte b = s.rxDiscard := by
  rcases h with idle | guard
  · exact onRxByte_of_idle idle b
  · exact onRxByte_of_guard guard b

/-- PHASE is one that stores, by being none that discards. -/
theorem phase_of_storing (guard : s.arb.phase ≠ .guard) (idle : s.arb.phase ≠ .idle) :
    s.arb.phase = .tx ∨ s.arb.phase = .wait ∨ s.arb.phase = .accum := by
  cases h : s.arb.phase <;> simp_all

/-- The arbiter once a byte has been stored. -/
def State.arbStored (s : State) : Arbiter :=
  if s.arb.phase = .tx then s.arb else { s.arb with phase := .accum, gapcnt := s.regs.gap }

/-- A byte stored: `rx_store`, and the arbiter as its phase has it. -/
theorem onRxByte_of_storing (guard : s.arb.phase ≠ .guard) (idle : s.arb.phase ≠ .idle) (b : Byte) :
    s.onRxByte b = { s.rxStore b with arb := s.arbStored } := by
  obtain tx | listening := phase_of_storing guard idle
  · rw [onRxByte_of_tx tx, State.arbStored, if_pos tx, ← rxStore_arb s b]
  · have notTx : s.arb.phase ≠ .tx := by rcases listening with h | h <;> rw [h] <;> decide
    rw [onRxByte_of_listening listening, State.arbStored, if_neg notTx, State.enterAccum, rxStore_arb, rxStore_regs_gap]

theorem rxByte_rxStore_of_ne {b : Byte} {i : Nat} (h : ¬(s.regs.rxlen.toNat < 256 ∧ i = s.regs.rxlen.toNat)) :
    (s.rxStore b).rxByte i = s.rxByte i := by
  by_cases room : s.regs.rxlen.toNat < 256
  · have other : i ≠ s.regs.rxlen.toNat := fun e => h ⟨room, e⟩
    rw [rxStore_of_room room]
    exact (rxByte_write s _ i b).trans (if_neg other)
  · rw [rxStore_of_full (not_lt.1 room)]
    rfl

end Byte

/-- Settles O34: `rx_store` with room and without. -/
theorem receivedByteIsStored : Obligations.ReceivedByteIsStored := by
  intro s b guard idle fits
  have stored : s.react (.rxByte b) = { s.rxStore b with arb := s.arbStored } := onRxByte_of_storing guard idle b
  rw [stored]
  refine ⟨rfl, rxStore_bufs_tx s b, rxStore_bufs_regval s b, rxStore_env s b, ?_⟩
  split_ifs with room
  · refine ⟨rxBytes_rxStore room b, ?_, fun i other => rxByte_rxStore_of_ne fun h => other h.2⟩
    rw [rxStore_of_room room]
  · rw [rxStore_of_full (not_lt.1 room)]
    exact ⟨rfl, rfl⟩

/-! ### A frame delivered whole (log 8) -/

section Frame

variable {s : State}

/-- IDLE and GUARD discard every byte. -/
theorem onRxFrame_of_discarding (h : s.arb.phase = .idle ∨ s.arb.phase = .guard) {bs : List Byte} (nonempty : bs ≠ []) :
    s.onRxFrame bs = s.rxDiscard := by
  obtain ⟨b, bs, rfl⟩ := List.exists_cons_of_ne_nil nonempty
  rw [State.onRxFrame, List.foldl_cons, onRxByte_of_discarding h]
  clear nonempty
  induction bs with
  | nil => rfl
  | cons c bs ih => rwa [List.foldl_cons, onRxByte_of_discarding (s := s.rxDiscard) h]

/-- What bytes delivered in a phase that stores them leave (R144, R145, R147). -/
structure StoredFrame (s t : State) (bs : List Byte) : Prop where
  rxBytes : t.rxBytes = (s.rxBytes ++ bs).take 256
  rxlen : t.regs.rxlen.toNat = min (s.regs.rxlen.toNat + bs.length) 256
  regs : t.regs = { s.regs with
    rxlen := t.regs.rxlen, ovf := if 256 < s.regs.rxlen.toNat + bs.length then true else s.regs.ovf }
  tx : t.bufs.tx = s.bufs.tx
  regval : t.bufs.regval = s.bufs.regval
  env : t.env = s.env
  arb : t.arb = if bs = [] then s.arb else s.arbStored

theorem storedFrame_nil (fits : s.regs.rxlen.toNat ≤ 256) : StoredFrame s s [] where
  rxBytes := by rw [List.append_nil, List.take_of_length_le (by simpa using fits)]
  rxlen := by rw [List.length_nil, Nat.add_zero, min_eq_left fits]
  regs := by rw [if_neg (by simpa using fits)]
  tx := rfl
  regval := rfl
  env := rfl
  arb := (if_pos rfl).symm

theorem arbStored_phase : s.arbStored.phase = if s.arb.phase = .tx then .tx else .accum := by
  unfold State.arbStored
  split_ifs with tx
  · exact tx
  · rfl

/-- A second byte finds the arbiter as the first one left it. -/
theorem arbStored_arbStored {u : State} (gap : u.regs.gap = s.regs.gap) (arb : u.arb = s.arbStored) :
    u.arbStored = s.arbStored := by
  rw [State.arbStored, arb, gap]
  unfold State.arbStored
  by_cases tx : s.arb.phase = .tx
  · rw [if_pos tx, if_pos tx]
  · rw [if_neg tx, if_neg (show Phase.accum ≠ .tx by decide)]

/-- One byte, with room for it and without. -/
theorem storedFrame_onRxByte (b : Byte) (guard : s.arb.phase ≠ .guard) (idle : s.arb.phase ≠ .idle)
    (fits : s.regs.rxlen.toNat ≤ 256) : StoredFrame s (s.onRxByte b) [b] := by
  have length : s.rxBytes.length = s.regs.rxlen.toNat := length_rxBytes s
  rw [onRxByte_of_storing guard idle b]
  by_cases room : s.regs.rxlen.toNat < 256
  · refine ⟨?_, ?_, ?_, rxStore_bufs_tx s b, rxStore_bufs_regval s b, rxStore_env s b, rfl⟩
    · rw [List.take_of_length_le (by rw [List.length_append, length]; exact room)]
      exact rxBytes_rxStore room b
    · exact (rxStore_rxlen s b).trans (by rw [if_pos room, List.length_singleton, min_eq_left room])
    · rw [List.length_singleton, if_neg (by omega), rxStore_of_room room]
  · have full : s.regs.rxlen.toNat = 256 := by omega
    rw [rxStore_of_full full.ge]
    refine ⟨?_, ?_, ?_, rfl, rfl, rfl, rfl⟩
    · rw [List.take_append_of_le_length (by omega), List.take_of_length_le (by omega)]
      rfl
    · show s.regs.rxlen.toNat = _
      rw [List.length_singleton]
      omega
    · rw [List.length_singleton, if_pos (by omega)]

/-- Bytes delivered after others. -/
theorem storedFrame_append {u t : State} {as bs : List Byte} (nonempty : as ≠ []) (first : StoredFrame s u as)
    (second : StoredFrame u t bs) : StoredFrame s t (as ++ bs) where
  rxBytes := by
    rw [second.rxBytes, first.rxBytes, ← List.append_assoc, List.take_append, List.take_append (l₁ := s.rxBytes ++ as),
      List.take_take, min_self, List.length_take]
    congr 2
    omega
  rxlen := by
    rw [second.rxlen, first.rxlen, List.length_append]
    omega
  regs := by
    have ovf : (if 256 < u.regs.rxlen.toNat + bs.length then true else u.regs.ovf) =
        if 256 < s.regs.rxlen.toNat + (as ++ bs).length then true else s.regs.ovf := by
      rw [first.rxlen, congrArg Regs.ovf first.regs, List.length_append]
      dsimp only
      by_cases past : 256 < s.regs.rxlen.toNat + as.length
      · rw [if_pos past, ite_self, if_pos (by omega)]
      · rw [if_neg past, min_eq_left (by omega), Nat.add_assoc]
    rw [second.regs, ovf, first.regs]
  tx := second.tx.trans first.tx
  regval := second.regval.trans first.regval
  env := second.env.trans first.env
  arb := by
    have gap : u.regs.gap = s.regs.gap := by rw [first.regs]
    have arb : u.arb = s.arbStored := first.arb.trans (if_neg nonempty)
    rw [second.arb, arbStored_arbStored gap arb, arb, ite_self, if_neg (List.append_ne_nil_of_left_ne_nil nonempty bs)]

theorem storedFrame_onRxFrame (bs : List Byte) (guard : s.arb.phase ≠ .guard) (idle : s.arb.phase ≠ .idle)
    (fits : s.regs.rxlen.toNat ≤ 256) : StoredFrame s (s.onRxFrame bs) bs := by
  induction bs generalizing s with
  | nil => exact storedFrame_nil fits
  | cons b bs ih =>
    have one := storedFrame_onRxByte b guard idle fits
    have phase : (s.onRxByte b).arb.phase = if s.arb.phase = .tx then .tx else .accum := by
      rw [one.arb, if_neg (List.cons_ne_nil b []), arbStored_phase]
    refine storedFrame_append (as := [b]) (List.cons_ne_nil b []) one (ih ?guard ?idle ?fits)
    case guard => rw [phase]; split_ifs <;> decide
    case idle => rw [phase]; split_ifs <;> decide
    case fits => rw [one.rxlen]; omega

/-! ### What a frame leaves as it reads, in every phase -/

theorem peek_setArb (x : Arbiter) {a : HostAddr} (status : a.toNat ≠ 0x001) :
    State.peek { s with arb := x } a = s.peek a := by
  apply peek_congr (status := fun h => absurd h status) <;> intros <;> rfl

theorem peek_rxDiscard {a : HostAddr} (status : a.toNat ≠ 0x001) : s.rxDiscard.peek a = s.peek a := by
  apply peek_congr (status := fun h => absurd h status) <;> intros <;> rfl

theorem peek_rxStore (b : Byte) {a : HostAddr} (status : a.toNat ≠ 0x001) (rxlen : a.toNat ≠ 0x00B)
    (byte : ¬(s.regs.rxlen.toNat < 256 ∧ a.toNat = 0x200 + s.regs.rxlen.toNat)) : (s.rxStore b).peek a = s.peek a := by
  have untouched (i : Nat) (_ : i < 256) (h : a.toNat = 0x200 + i) : (s.rxStore b).rxByte i = s.rxByte i :=
    rxByte_rxStore_of_ne (by omega)
  apply peek_congr (status := fun h => absurd h status) (rxlen := fun h => absurd h rxlen) (rx := untouched)
    (tx := fun i _ _ => txByte_congr (rxStore_bufs_tx s b) (congrArg Env.epoch (rxStore_env s b)) i)
    (regval := fun i _ _ => regvalWord_congr (rxStore_bufs_regval s b) (congrArg Env.epoch (rxStore_env s b)) i) <;>
    intros <;> simp

/-- A byte shows in STATUS, RXLEN and RXBUF[RXLEN] alone. -/
theorem peek_onRxByte (b : Byte) {a : HostAddr} (status : a.toNat ≠ 0x001) (rxlen : a.toNat ≠ 0x00B)
    (byte : ¬(s.regs.rxlen.toNat < 256 ∧ a.toNat = 0x200 + s.regs.rxlen.toNat)) : (s.onRxByte b).peek a = s.peek a := by
  by_cases discarding : s.arb.phase = .idle ∨ s.arb.phase = .guard
  · rw [onRxByte_of_discarding discarding, peek_rxDiscard status]
  · obtain ⟨idle, guard⟩ := not_or.1 discarding
    rw [onRxByte_of_storing guard idle, peek_setArb _ status, peek_rxStore b status rxlen byte]

theorem rxlen_onRxByte (b : Byte) :
    (s.onRxByte b).regs.rxlen.toNat = s.regs.rxlen.toNat ∨
      (s.onRxByte b).regs.rxlen.toNat = s.regs.rxlen.toNat + 1 := by
  by_cases discarding : s.arb.phase = .idle ∨ s.arb.phase = .guard
  · exact .inl (by rw [onRxByte_of_discarding discarding, rxDiscard_regs_rxlen])
  · obtain ⟨idle, guard⟩ := not_or.1 discarding
    rw [onRxByte_of_storing guard idle]
    have rxlen := rxStore_rxlen s b
    split_ifs at rxlen
    · exact .inr rxlen
    · exact .inl rxlen

theorem peek_onRxFrame (bs : List Byte) {a : HostAddr} (status : a.toNat ≠ 0x001) (rxlen : a.toNat ≠ 0x00B)
    (outside : ¬(0x200 + s.regs.rxlen.toNat ≤ a.toNat ∧ a.toNat < 0x200 + s.regs.rxlen.toNat + bs.length ∧
      a.toNat < 0x300)) : (s.onRxFrame bs).peek a = s.peek a := by
  induction bs generalizing s with
  | nil => rfl
  | cons b bs ih =>
    rw [List.length_cons] at outside
    have first : (s.onRxByte b).peek a = s.peek a := peek_onRxByte b status rxlen (by omega)
    rw [← first]
    apply ih
    obtain same | next := rxlen_onRxByte (s := s) b
    · rw [same]; omega
    · omega

end Frame

/-! ### The obligation -/

/-- A frame instruction whose bytes are not none arrives as they do. -/
theorem arrives_of_exec {i : Instr} {bs : List Byte} (nonempty : bs ≠ []) (runs : ∀ s, exec i s = .next (s.onRxFrame bs)) :
    Claims.Arrives i bs := by
  intro s
  refine ⟨s.onRxFrame bs, runs s, fun discarding => onRxFrame_of_discarding discarding nonempty, ?stored, ?frame⟩
  case stored =>
    intro idle guard fits n
    have stored := storedFrame_onRxFrame bs guard idle fits
    exact ⟨stored.rxBytes, stored.rxlen, stored.regs, stored.tx, stored.regval, stored.env,
      stored.arb.trans (if_neg nonempty)⟩
  case frame =>
    intro a unchanged outside
    simp only [List.mem_cons, List.not_mem_nil, or_false, not_or] at unchanged
    exact peek_onRxFrame bs unchanged.1 unchanged.2 outside

/-- Settles O38: both response frames are their bytes, and neither is empty. -/
theorem responseFramesArrive : Obligations.ResponseFramesArrive :=
  ⟨fun _ _ => arrives_of_exec (by simp [readResponse, withCrc]) fun _ => rfl,
    fun _ _ _ => arrives_of_exec (by simp [shortFrame, withCrc]) fun _ => rfl⟩

end Sys2Proof.Machine
end

section
/-! PROOFS. What a command written to CMD can do (60_exceptions.md R172): nothing, a rejection, an abort, or one of the
nine commands run after acceptance. -/

namespace Sys2Proof.Machine

/-- The outcomes of a command word, each with what has let it through. -/
theorem exec_command_cases {motive : State → Prop} {s t : State} {w : Word} (runs : exec (decodeCommand w) s = .next t)
    (nop : motive s) (rejected : ∀ op c, motive (s.reject op c)) (aborted : motive s.runAbort)
    (crc : s.busy = false → w = 0x0001#16 → motive s.accept.runCrc)
    (encrd : s.busy = false → w = 0x0002#16 → motive (s.accept.runEncode 0x03#8 0x2#4))
    (encwr : s.busy = false → w = 0x0003#16 → motive (s.accept.runEncode 0x06#8 0x3#4))
    (decode : s.busy = false → w = 0x0004#16 → motive (s.decoded.2.finish 0x4#4 s.decoded.1))
    (openPort : s.busy = false → w = 0x0005#16 → motive s.accept.runOpen)
    (closePort : s.busy = false → w = 0x0006#16 → motive s.accept.runClose)
    (refused : s.busy = false → ∀ op c, w = op.setWidth 16 → op = 0x7#4 ∨ op = 0x8#4 ∨ op = 0x9#4 →
      motive (s.accept.finish op c))
    (read : s.busy = false → w = 0x0007#16 → s.regs.conn = true → s.regs.arg1 ≠ 0#16 → s.regs.arg1.toNat ≤ 125 →
      motive (s.startRequest 0x03#8 .read))
    (write : s.busy = false → w = 0x0008#16 → s.regs.conn = true → motive (s.startRequest 0x06#8 .write))
    (raw : s.busy = false → w = 0x0009#16 → s.regs.conn = true → s.regs.txlen ≠ 0#9 →
      motive (s.accept.startXact .raw)) : motive t := by
  have answers {u : State} (h : exec (decodeCommand w) s = .next u) (hu : motive u) : motive t := by
    rw [runs] at h
    rwa [Host.Outcome.next.inj h]
  by_cases illegal : isIllegal w = true
  · exact answers (by rw [decodeCommand_of_illegal illegal, exec_illegal]) (rejected _ _)
  have legal : isIllegal w = false := Bool.eq_false_iff.2 illegal
  by_cases isNop : w = 0x0000#16
  · subst isNop
    exact answers rfl nop
  by_cases isAbort : opOf w = 0xA#4
  · exact answers (by rw [decodeCommand_of_abort legal isAbort, exec_abort]) aborted
  obtain ⟨run, issues, -⟩ := issuedUnder_decodeCommand legal isNop isAbort
  by_cases busy : s.busy = true
  · exact answers (by rw [issues, issue_of_busy busy]) (rejected _ _)
  have free : s.busy = false := Bool.eq_false_iff.2 busy
  clear issues
  obtain ⟨n, small, rfl⟩ : ∃ n < 0xB, w = BitVec.ofNat 16 n := ⟨w.toNat, toNat_lt_of_legal legal, by simp⟩
  interval_cases n
  · exact absurd rfl isNop
  · exact answers (exec_crc_of_free free) (crc free rfl)
  · exact answers ((exec_encrd s).trans (by rw [issue_of_free free])) (encrd free rfl)
  · exact answers ((exec_encwr s).trans (by rw [issue_of_free free])) (encwr free rfl)
  · exact answers (exec_decode_of_free free) (decode free rfl)
  · exact answers ((exec_open s).trans (by rw [issue_of_free free])) (openPort free rfl)
  · exact answers ((exec_close s).trans (by rw [issue_of_free free])) (closePort free rfl)
  · refine answers (exec_read_of_free free) ?_
    split_ifs with conn range
    · exact refused free _ _ rfl (by decide)
    · exact refused free _ _ rfl (by decide)
    · exact read free rfl (by simpa using conn) (not_or.1 range).1 (not_lt.1 (not_or.1 range).2)
  · refine answers (exec_write_of_free free) ?_
    split_ifs with conn
    · exact refused free _ _ rfl (by decide)
    · exact write free rfl (by simpa using conn)
  · refine answers (exec_raw_of_free free) ?_
    split_ifs with conn empty
    · exact refused free _ _ rfl (by decide)
    · exact refused free _ _ rfl (by decide)
    · exact raw free rfl (by simpa using conn) empty
  · exact absurd rfl isAbort

end Sys2Proof.Machine
end

section
/-! PROOFS. The invariants of a state (10_state.md R44) in two halves: what fits in every phase, and the arbiter, which is
at rest or has a transaction in flight. Every operation keeps them. -/

namespace Sys2Proof.Machine

/-! ### The halves -/

/-- The bounds that hold in every phase. -/
structure State.Fits (s : State) : Prop where
  rxlen_le : s.regs.rxlen.toNat ≤ 256
  txlen_le : s.regs.txlen.toNat ≤ 256
  nregs_le : s.regs.nregs.toNat ≤ 125
  gap_pos : s.regs.gap ≠ 0#8
  tx_wf : Memory.wf s.bufs.tx
  rx_wf : Memory.wf s.bufs.rx
  regval_wf : Memory.wf s.bufs.regval
  tx_range : ∀ c ∈ s.bufs.tx, c.1 < 256
  rx_range : ∀ c ∈ s.bufs.rx, c.1 < 256
  regval_range : ∀ c ∈ s.bufs.regval, c.1 < 125

/-- No transaction: the arbiter is as `end_xact` leaves it (R138). -/
def State.AtRest (s : State) : Prop := s.arb = s.arb.ended

/-- A transaction is owned by a command, connected, with a frame to send, not done and showing no register. -/
structure State.InFlight (s : State) : Prop where
  xop : s.arb.xop ≠ .none
  conn : s.regs.conn = true
  txlen : s.regs.txlen ≠ 0#9
  nregs : s.regs.nregs = 0#7
  not_done : s.regs.done = false
  read_count : s.arb.xop = .read → s.regs.arg1 ≠ 0#16 ∧ s.regs.arg1.toNat ≤ 125

/-- What each phase of a transaction keeps. -/
def State.PhaseRuns (s : State) : Prop :=
  match s.arb.phase with
  | .idle => False
  | .guard => s.arb.gcnt ≠ 0#8 ∧ s.regs.rxlen = 0#9
  | .tx => s.arb.txptr.toNat < s.regs.txlen.toNat
  | .wait => s.arb.tocnt ≠ 0#16 ∧ s.regs.rxlen = 0#9
  | .accum => s.arb.gapcnt ≠ 0#8 ∧ s.regs.rxlen ≠ 0#9

section Halves

variable {s t : State}

theorem atRest_phase (rest : s.AtRest) : s.arb.phase = .idle := congrArg Arbiter.phase rest

theorem atRest_xop (rest : s.AtRest) : s.arb.xop = .none := congrArg Arbiter.xop rest

theorem inv_of_atRest (fits : s.Fits) (rest : s.AtRest) : s.Inv := by
  have idle := atRest_phase rest
  have notBusy : s.busy ≠ true := Bool.eq_false_iff.1 (busy_eq_false_iff.2 idle)
  have other {p : Phase} (h : p ≠ .idle) : s.arb.phase ≠ p := fun e => h (e.symm.trans idle)
  exact {
    busy_iff := iff_of_false notBusy (not_not.2 (atRest_xop rest))
    busy_conn := fun h => absurd h notBusy
    tx_ptr := fun h => absurd h (other (by decide))
    rxlen_le := fits.rxlen_le
    txlen_le := fits.txlen_le
    nregs_le := fits.nregs_le
    gap_pos := fits.gap_pos
    busy_txlen := fun h => absurd h notBusy
    busy_nregs := fun h => absurd h notBusy
    busy_not_done := fun h => absurd h notBusy
    guard_runs := fun h => absurd h (other (by decide))
    wait_runs := fun h => absurd h (other (by decide))
    accum_runs := fun h => absurd h (other (by decide))
    guard_empty := fun h => absurd h (other (by decide))
    wait_empty := fun h => absurd h (other (by decide))
    accum_nonempty := fun h => absurd h (other (by decide))
    idle_zero := fun _ => ⟨congrArg Arbiter.txptr rest, congrArg Arbiter.gcnt rest, congrArg Arbiter.tocnt rest,
      congrArg Arbiter.gapcnt rest⟩
    read_count := fun h => absurd ((atRest_xop rest).symm.trans h) (by decide)
    tx_wf := fits.tx_wf
    rx_wf := fits.rx_wf
    regval_wf := fits.regval_wf
    tx_range := fits.tx_range
    rx_range := fits.rx_range
    regval_range := fits.regval_range }

theorem inv_of_inFlight (fits : s.Fits) (flight : s.InFlight) (runs : s.PhaseRuns) : s.Inv := by
  have notIdle : s.arb.phase ≠ .idle := fun idle => by simp [State.PhaseRuns, idle] at runs
  have busy : s.busy = true := busy_eq_true_iff.2 notIdle
  have phaseRuns {p : Phase} (h : s.arb.phase = p) : State.PhaseRuns { s with arb.phase := p } := by
    subst h; exact runs
  exact {
    busy_iff := iff_of_true busy flight.xop
    busy_conn := fun _ => flight.conn
    tx_ptr := fun h => phaseRuns h
    rxlen_le := fits.rxlen_le
    txlen_le := fits.txlen_le
    nregs_le := fits.nregs_le
    gap_pos := fits.gap_pos
    busy_txlen := fun _ => flight.txlen
    busy_nregs := fun _ => flight.nregs
    busy_not_done := fun _ => flight.not_done
    guard_runs := fun h => (phaseRuns h).1
    wait_runs := fun h => (phaseRuns h).1
    accum_runs := fun h => (phaseRuns h).1
    guard_empty := fun h => (phaseRuns h).2
    wait_empty := fun h => (phaseRuns h).2
    accum_nonempty := fun h => (phaseRuns h).2
    idle_zero := fun h => absurd busy (Bool.eq_false_iff.1 h)
    read_count := flight.read_count
    tx_wf := fits.tx_wf
    rx_wf := fits.rx_wf
    regval_wf := fits.regval_wf
    tx_range := fits.tx_range
    rx_range := fits.rx_range
    regval_range := fits.regval_range }

theorem phaseRuns_of_guard (phase : s.arb.phase = .guard) (runs : s.arb.gcnt ≠ 0#8) (empty : s.regs.rxlen = 0#9) :
    s.PhaseRuns := by
  simp only [State.PhaseRuns, phase]
  exact ⟨runs, empty⟩

theorem phaseRuns_of_tx (phase : s.arb.phase = .tx) (left : s.arb.txptr.toNat < s.regs.txlen.toNat) :
    s.PhaseRuns := by
  simp only [State.PhaseRuns, phase]
  exact left

theorem phaseRuns_of_wait (phase : s.arb.phase = .wait) (runs : s.arb.tocnt ≠ 0#16) (empty : s.regs.rxlen = 0#9) :
    s.PhaseRuns := by
  simp only [State.PhaseRuns, phase]
  exact ⟨runs, empty⟩

theorem phaseRuns_of_accum (phase : s.arb.phase = .accum) (runs : s.arb.gapcnt ≠ 0#8) (received : s.regs.rxlen ≠ 0#9) :
    s.PhaseRuns := by
  simp only [State.PhaseRuns, phase]
  exact ⟨runs, received⟩

theorem fits_of_inv (inv : s.Inv) : s.Fits :=
  ⟨inv.rxlen_le, inv.txlen_le, inv.nregs_le, inv.gap_pos, inv.tx_wf, inv.rx_wf, inv.regval_wf, inv.tx_range,
    inv.rx_range, inv.regval_range⟩

theorem xop_of_idle (inv : s.Inv) (idle : s.arb.phase = .idle) : s.arb.xop = .none :=
  not_not.1 fun h => busy_eq_true_iff.1 (inv.busy_iff.2 h) idle

theorem atRest_of_inv (inv : s.Inv) (idle : s.arb.phase = .idle) : s.AtRest := by
  have none := xop_of_idle inv idle
  obtain ⟨txptr, gcnt, tocnt, gapcnt⟩ := inv.idle_zero (busy_eq_false_iff.2 idle)
  calc s.arb
      = ⟨s.arb.phase, s.arb.xop, s.arb.txptr, s.arb.gcnt, s.arb.tocnt, s.arb.gapcnt, s.arb.port⟩ := rfl
    _ = s.arb.ended := by rw [idle, none, txptr, gcnt, tocnt, gapcnt]; rfl

theorem inFlight_of_inv (inv : s.Inv) (notIdle : s.arb.phase ≠ .idle) : s.InFlight := by
  have busy : s.busy = true := busy_eq_true_iff.2 notIdle
  exact ⟨inv.busy_iff.1 busy, inv.busy_conn busy, inv.busy_txlen busy, inv.busy_nregs busy, inv.busy_not_done busy,
    inv.read_count⟩

theorem inv_congr (regs : t.regs = s.regs) (bufs : t.bufs = s.bufs) (arb : t.arb = s.arb) (inv : s.Inv) : t.Inv := by
  obtain ⟨r, b, a, e⟩ := s
  obtain ⟨r', b', a', e'⟩ := t
  subst regs bufs arb
  exact { inv with }

theorem fits_congr (bufs : t.bufs = s.bufs) (rxlen : t.regs.rxlen = s.regs.rxlen) (txlen : t.regs.txlen = s.regs.txlen)
    (nregs : t.regs.nregs = s.regs.nregs) (gap : t.regs.gap = s.regs.gap) (fits : s.Fits) : t.Fits := by
  constructor
  · rw [rxlen]; exact fits.rxlen_le
  · rw [txlen]; exact fits.txlen_le
  · rw [nregs]; exact fits.nregs_le
  · rw [gap]; exact fits.gap_pos
  · rw [bufs]; exact fits.tx_wf
  · rw [bufs]; exact fits.rx_wf
  · rw [bufs]; exact fits.regval_wf
  · rw [bufs]; exact fits.tx_range
  · rw [bufs]; exact fits.rx_range
  · rw [bufs]; exact fits.regval_range

theorem inFlight_congr (xop : t.arb.xop = s.arb.xop) (conn : t.regs.conn = s.regs.conn)
    (txlen : t.regs.txlen = s.regs.txlen) (nregs : t.regs.nregs = s.regs.nregs) (done : t.regs.done = s.regs.done)
    (arg1 : t.regs.arg1 = s.regs.arg1) (flight : s.InFlight) : t.InFlight := by
  constructor
  · rw [xop]; exact flight.xop
  · rw [conn]; exact flight.conn
  · rw [txlen]; exact flight.txlen
  · rw [nregs]; exact flight.nregs
  · rw [done]; exact flight.not_done
  · rw [xop, arg1]; exact flight.read_count

/-! ### The operations that end a transaction, or start one -/

theorem inv_endXact (fits : s.Fits) (c : Code) : (s.endXact c).Inv :=
  inv_of_atRest (fits_congr (s := s) rfl rfl rfl rfl rfl fits) rfl

theorem inv_startXact (fits : s.Fits) {op : XOp} (xop : op ≠ .none) (conn : s.regs.conn = true)
    (txlen : s.regs.txlen ≠ 0#9) (not_done : s.regs.done = false)
    (read_count : op = .read → s.regs.arg1 ≠ 0#16 ∧ s.regs.arg1.toNat ≤ 125) : (s.startXact op).Inv := by
  have bufs := startXact_bufs s op
  refine inv_of_inFlight ?fits ?flight ?runs
  case fits =>
    exact {
      rxlen_le := by simp
      txlen_le := by rw [startXact_regs_txlen]; exact fits.txlen_le
      nregs_le := by simp
      gap_pos := by rw [startXact_regs_gap]; exact fits.gap_pos
      tx_wf := by rw [bufs]; exact fits.tx_wf
      rx_wf := by rw [bufs]; exact fits.rx_wf
      regval_wf := by rw [bufs]; exact fits.regval_wf
      tx_range := by rw [bufs]; exact fits.tx_range
      rx_range := by rw [bufs]; exact fits.rx_range
      regval_range := by rw [bufs]; exact fits.regval_range }
  case flight =>
    constructor <;> simp only [startXact_arb_xop, startXact_regs_conn, startXact_regs_txlen, startXact_regs_nregs,
      startXact_regs_done, startXact_regs_arg1]
    all_goals assumption
  case runs =>
    by_cases noGuard : s.regs.guard = 0#8
    · rw [startXact_of_no_guard noGuard]
      exact Nat.pos_of_ne_zero fun h => txlen (BitVec.eq_of_toNat_eq h)
    · rw [startXact_of_guard noGuard]
      exact ⟨noGuard, rfl⟩

theorem fits_encFrame (f : Byte) (fits : s.Fits) : (s.encFrame f).Fits where
  rxlen_le := fits.rxlen_le
  txlen_le := (by decide : (8#9).toNat ≤ 256)
  nregs_le := fits.nregs_le
  gap_pos := fits.gap_pos
  tx_wf := Memory.wf_writeAll _ fits.tx_wf 0
  rx_wf := fits.rx_wf
  regval_wf := fits.regval_wf
  tx_range := Memory.range_writeAll _ fits.tx_range (by simp [header])
  rx_range := fits.rx_range
  regval_range := fits.regval_range

/-! ### The decoder and the completion checks -/

theorem decodeResponse_length_of_read {bs : List Byte} (accepted : (s.decodeResponse bs).1 = .ok)
    (func : byteAt bs 1 = 0x03#8) : bs.length = (byteAt bs 2).toNat + 5 := by
  rw [decodeResponse_verdict, if_pos func] at accepted
  split_ifs at accepted with _ _ layout
  exact layout.1

theorem nregs_decodeResponse_le {bs : List Byte} (short : bs.length ≤ 256) :
    (s.decodeResponse bs).2.regs.nregs.toNat ≤ 125 := by
  by_cases read : (s.decodeResponse bs).1 = .ok ∧ byteAt bs 1 = 0x03#8
  · have length := decodeResponse_length_of_read read.1 read.2
    rw [toNat_nregs_decodeResponse_of_read read.1 read.2]
    omega
  · rw [decodeResponse_nregs, if_neg read]
    decide

theorem regval_decodeResponse_fits {bs : List Byte} (short : bs.length ≤ 256) (fits : s.Fits) :
    Memory.wf (s.decodeResponse bs).2.bufs.regval ∧ ∀ c ∈ (s.decodeResponse bs).2.bufs.regval, c.1 < 125 := by
  have registers := decodeResponse_registers s bs
  by_cases read : (s.decodeResponse bs).1 = .ok ∧ byteAt bs 1 = 0x03#8
  · have length := decodeResponse_length_of_read read.1 read.2
    rw [if_pos read] at registers
    rw [(Prod.mk.inj registers).2]
    exact ⟨Memory.wf_writeAll _ fits.regval_wf 0, Memory.range_writeAll _ fits.regval_range (by simp; omega)⟩
  · rw [if_neg read] at registers
    rw [(Prod.mk.inj registers).2]
    exact ⟨fits.regval_wf, fits.regval_range⟩

theorem fits_decodeResponse {bs : List Byte} (short : bs.length ≤ 256) (fits : s.Fits) :
    (s.decodeResponse bs).2.Fits where
  rxlen_le := by rw [decodeResponse_regs_rxlen]; exact fits.rxlen_le
  txlen_le := by rw [decodeResponse_regs_txlen]; exact fits.txlen_le
  nregs_le := nregs_decodeResponse_le short
  gap_pos := by rw [decodeResponse_regs_gap]; exact fits.gap_pos
  tx_wf := by rw [decodeResponse_bufs_tx]; exact fits.tx_wf
  rx_wf := by rw [decodeResponse_bufs_rx]; exact fits.rx_wf
  regval_wf := (regval_decodeResponse_fits short fits).1
  tx_range := by rw [decodeResponse_bufs_tx]; exact fits.tx_range
  rx_range := by rw [decodeResponse_bufs_rx]; exact fits.rx_range
  regval_range := (regval_decodeResponse_fits short fits).2

/-- A check writes NREGS and REGVAL as the decoder does, or 0, or not. -/
theorem fits_burstCheck {bs : List Byte} (short : bs.length ≤ 256) (fits : s.Fits) : (s.burstCheck bs).2.Fits where
  rxlen_le := by rw [burstCheck_regs_rxlen]; exact fits.rxlen_le
  txlen_le := by rw [burstCheck_regs_txlen]; exact fits.txlen_le
  nregs_le := by
    obtain h | h | h := burstCheck_nregs s bs
    · rw [h]; exact fits.nregs_le
    · rw [h]; decide
    · rw [h]; exact nregs_decodeResponse_le short
  gap_pos := by rw [burstCheck_regs_gap]; exact fits.gap_pos
  tx_wf := by rw [burstCheck_bufs_tx]; exact fits.tx_wf
  rx_wf := by rw [burstCheck_bufs_rx]; exact fits.rx_wf
  regval_wf := by
    obtain h | h := burstCheck_regval s bs
    · rw [h]; exact fits.regval_wf
    · rw [h]; exact (regval_decodeResponse_fits short fits).1
  tx_range := by rw [burstCheck_bufs_tx]; exact fits.tx_range
  rx_range := by rw [burstCheck_bufs_rx]; exact fits.rx_range
  regval_range := by
    obtain h | h := burstCheck_regval s bs
    · rw [h]; exact fits.regval_range
    · rw [h]; exact (regval_decodeResponse_fits short fits).2

theorem inv_completeXact (fits : s.Fits) : s.completeXact.Inv := by
  rw [completeXact_eq]
  split_ifs
  · exact inv_endXact fits _
  · exact inv_endXact (fits_burstCheck (by simpa using fits.rxlen_le) fits) _

/-! ### The events -/

theorem inv_enterTx (fits : s.Fits) (flight : s.InFlight) : s.enterTx.Inv :=
  inv_of_inFlight (fits_congr (s := s) rfl rfl rfl rfl rfl fits) (inFlight_congr (s := s) rfl rfl rfl rfl rfl rfl flight)
    (Nat.pos_of_ne_zero fun h => flight.txlen (BitVec.eq_of_toNat_eq h))

theorem inv_enterAccum (fits : s.Fits) (flight : s.InFlight) (received : s.regs.rxlen ≠ 0#9) : s.enterAccum.Inv :=
  inv_of_inFlight (fits_congr (s := s) rfl rfl rfl rfl rfl fits) (inFlight_congr (s := s) rfl rfl rfl rfl rfl rfl flight)
    ⟨fits.gap_pos, received⟩

theorem inv_enterWait (fits : s.Fits) (flight : s.InFlight) (empty : s.regs.rxlen = 0#9) : s.enterWait.Inv := by
  unfold State.enterWait
  split_ifs with timeout
  · exact inv_endXact fits _
  · exact inv_of_inFlight (fits_congr (s := s) rfl rfl rfl rfl rfl fits)
      (inFlight_congr (s := s) rfl rfl rfl rfl rfl rfl flight) ⟨timeout, empty⟩

theorem inv_onTick (inv : s.Inv) : s.onTick.Inv := by
  have fits := fits_of_inv inv
  cases phase : s.arb.phase with
  | idle => rwa [onTick_of_idle phase]
  | tx => rwa [onTick_of_tx phase]
  | guard =>
    have flight := inFlight_of_inv inv (by simp [phase])
    rw [onTick_of_guard phase, show s.tickGuard = _ from tickGuard_withGcnt s.arb.gcnt]
    split_ifs with expired
    · exact inv_enterTx (fits_congr (s := s) rfl rfl rfl rfl rfl fits)
        (inFlight_congr (s := s) rfl rfl rfl rfl rfl rfl flight)
    · exact inv_of_inFlight (fits_congr (s := s) rfl rfl rfl rfl rfl fits)
        (inFlight_congr (s := s) rfl rfl rfl rfl rfl rfl flight)
        (phaseRuns_of_guard (s := s.withGcnt _) phase expired (inv.guard_empty phase))
  | wait =>
    have flight := inFlight_of_inv inv (by simp [phase])
    rw [onTick_of_wait phase, show s.tickWait = _ from tickWait_withTocnt s.arb.tocnt]
    split_ifs with expired
    · exact inv_endXact (fits_congr (s := s) rfl rfl rfl rfl rfl fits) _
    · exact inv_of_inFlight (fits_congr (s := s) rfl rfl rfl rfl rfl fits)
        (inFlight_congr (s := s) rfl rfl rfl rfl rfl rfl flight)
        (phaseRuns_of_wait (s := s.withTocnt _) phase expired (inv.wait_empty phase))
  | accum =>
    have flight := inFlight_of_inv inv (by simp [phase])
    rw [onTick_of_accum phase, show s.tickAccum = _ from tickAccum_withGapcnt s.arb.gapcnt]
    split_ifs with expired
    · exact inv_completeXact (fits_congr (s := s) rfl rfl rfl rfl rfl fits)
    · exact inv_of_inFlight (fits_congr (s := s) rfl rfl rfl rfl rfl fits)
        (inFlight_congr (s := s) rfl rfl rfl rfl rfl rfl flight)
        (phaseRuns_of_accum (s := s.withGapcnt _) phase expired (inv.accum_nonempty phase))

theorem rxlen_rxStore_ne_zero (b : Byte) : (s.rxStore b).regs.rxlen ≠ 0#9 := by
  rw [← rxlen_pos_iff, rxStore_rxlen]
  split_ifs <;> omega

theorem fits_rxStore (b : Byte) (fits : s.Fits) : (s.rxStore b).Fits := by
  by_cases room : s.regs.rxlen.toNat < 256
  · have rxlen := rxStore_rxlen s b
    rw [if_pos room] at rxlen
    rw [rxStore_of_room room] at rxlen ⊢
    exact { fits with
      rxlen_le := by rw [rxlen]; exact room
      rx_wf := Memory.wf_write fits.rx_wf _ _
      rx_range := Memory.range_write fits.rx_range room b }
  · rw [rxStore_of_full (not_lt.1 room)]
    exact fits_congr (s := s) rfl rfl rfl rfl rfl fits

theorem inFlight_rxStore (b : Byte) (flight : s.InFlight) : (s.rxStore b).InFlight :=
  inFlight_congr (congrArg Arbiter.xop (rxStore_arb s b)) (rxStore_regs_conn s b) (rxStore_regs_txlen s b)
    (rxStore_regs_nregs s b) (rxStore_regs_done s b) (rxStore_regs_arg1 s b) flight

theorem inv_rxDiscard (inv : s.Inv) : s.rxDiscard.Inv := { inv with }

theorem inv_onRxByte (b : Byte) (inv : s.Inv) : (s.onRxByte b).Inv := by
  by_cases discarding : s.arb.phase = .idle ∨ s.arb.phase = .guard
  · rw [onRxByte_of_discarding discarding]
    exact inv_rxDiscard inv
  obtain ⟨idle, guard⟩ := not_or.1 discarding
  have fits := fits_rxStore b (fits_of_inv inv)
  have flight := inFlight_rxStore b (inFlight_of_inv inv idle)
  obtain tx | listening := phase_of_storing guard idle
  · rw [onRxByte_of_tx tx]
    refine inv_of_inFlight fits flight (phaseRuns_of_tx (by rw [rxStore_arb, tx]) ?_)
    rw [rxStore_arb, rxStore_regs_txlen]
    exact inv.tx_ptr tx
  · rw [onRxByte_of_listening listening]
    exact inv_enterAccum fits flight (rxlen_rxStore_ne_zero b)

theorem inv_onRxFrame (bs : List Byte) (inv : s.Inv) : (s.onRxFrame bs).Inv := by
  induction bs generalizing s with
  | nil => exact inv
  | cons b bs ih => exact ih (inv_onRxByte b inv)

theorem inv_onTxTake (inv : s.Inv) : s.onTxTake.Inv := by
  by_cases tx : s.arb.phase = .tx
  case neg => rwa [onTxTake_of_ne_tx tx]
  have left := inv.tx_ptr tx
  have fits : s.sentOne.Fits := fits_congr (s := s) rfl rfl rfl rfl rfl (fits_of_inv inv)
  have flight : s.sentOne.InFlight :=
    inFlight_congr (s := s) rfl rfl rfl rfl rfl rfl (inFlight_of_inv inv (by simp [tx]))
  rw [onTxTake_of_tx tx, takeTx_eq]
  split_ifs with last
  · unfold State.leaveTx
    split_ifs with received
    · exact inv_enterAccum fits flight (rxlen_pos_iff.1 received)
    · exact inv_enterWait fits flight (not_not.1 (mt rxlen_pos_iff.2 received))
  · refine inv_of_inFlight fits flight (phaseRuns_of_tx (s := s.sentOne) tx ?_)
    have ptr := toNat_txptr_sentOne left
    have other : s.sentOne.arb.txptr.toNat ≠ s.regs.txlen.toNat := fun h => last (BitVec.eq_of_toNat_eq h)
    show s.sentOne.arb.txptr.toNat < s.regs.txlen.toNat
    omega

theorem inv_takeMany (n : Nat) (inv : s.Inv) : (State.takeMany n s).Inv := by
  induction n generalizing s with
  | zero => exact inv
  | succ n ih => exact ih (inv_onTxTake inv)

theorem inv_onTakeFrame (bs : List Byte) (inv : s.Inv) : (s.onTakeFrame bs).Inv := by
  unfold State.onTakeFrame
  split_ifs
  · exact inv_takeMany _ inv
  · exact inv

theorem inv_onTxError (inv : s.Inv) : s.onTxError.Inv := by
  by_cases tx : s.arb.phase = .tx
  · rw [onTxError_of_tx tx]
    exact inv_endXact (fits_of_inv inv) _
  · rwa [onTxError_of_ne_tx tx]

theorem inv_onLinkLost (inv : s.Inv) : s.onLinkLost.Inv := by
  have fits := fits_of_inv inv
  cases conn : s.regs.conn with
  | false => rwa [onLinkLost_of_no_conn conn]
  | true =>
    rw [onLinkLost_of_conn conn]
    split_ifs with none
    · have idle : s.arb.phase = .idle := by
        by_contra busy
        exact (inFlight_of_inv inv busy).xop none
      exact inv_of_atRest (fits_congr (s := s) rfl rfl rfl rfl rfl fits) (show s.AtRest from atRest_of_inv inv idle)
    · exact inv_endXact (s := s.disconnected.clearNregs) { fits with nregs_le := (by decide : (0#7).toNat ≤ 125) } _

theorem inv_reset : State.reset.Inv := by
  constructor <;> decide

theorem inv_onReset (s : State) : s.onReset.Inv :=
  inv_congr (s := State.reset) rfl rfl rfl inv_reset

theorem toNat_clampLen_le (v : Word) : (clampLen v).toNat ≤ 256 := by
  unfold clampLen
  split_ifs with large
  · decide
  · rw [BitVec.toNat_setWidth]
    omega

theorem clampGap_ne_zero (v : Word) : clampGap v ≠ 0#8 := by
  unfold clampGap
  split_ifs with zero
  · decide
  · exact zero

theorem fits_poke (a : HostAddr) (v : Word) (fits : s.Fits) : (s.poke a v).Fits := by
  apply poke_cases (motive := State.Fits)
  case gap => exact fun _ => { fits with gap_pos := clampGap_ne_zero v }
  case txlen => exact fun _ => { fits with txlen_le := toNat_clampLen_le v }
  case rxlen => exact fun _ => { fits with rxlen_le := toNat_clampLen_le v }
  case tx => exact fun i h _ =>
    { fits with tx_wf := Memory.wf_write fits.tx_wf i _, tx_range := Memory.range_write fits.tx_range h _ }
  case rx => exact fun i h _ =>
    { fits with rx_wf := Memory.wf_write fits.rx_wf i _, rx_range := Memory.range_write fits.rx_range h _ }
  all_goals exact fun _ => { fits with }

theorem inv_hostWrite (a : HostAddr) (v : Word) (inv : s.Inv) : (s.hostWrite a v).Inv := by
  cases busy : s.busy with
  | true => rwa [hostWrite_of_busy a v busy]
  | false =>
    rw [hostWrite_of_free a v busy]
    have rest := atRest_of_inv inv (busy_eq_false_iff.1 busy)
    have arb : (s.poke a v).arb = s.arb := (poke_recordAsIn s a v).1
    exact inv_of_atRest (fits_poke a v (fits_of_inv inv)) (by rw [State.AtRest, arb]; exact rest)

/-- Every reaction keeps the invariants. -/
theorem inv_react (e : Event) (inv : s.Inv) : (s.react e).Inv := by
  cases e with
  | hostWrite a v => exact inv_hostWrite a v inv
  | hostRead a => exact inv_congr (emit_regs s _) (emit_bufs s _) (emit_arb s _) inv
  | tick => exact inv_onTick inv
  | rxByte b => exact inv_onRxByte b inv
  | txTake => exact inv_onTxTake inv
  | txError => exact inv_onTxError inv
  | linkLost => exact inv_onLinkLost inv
  | rst => exact inv_onReset s
  | rxFrame bs => exact inv_onRxFrame bs inv
  | takeFrame bs => exact inv_onTakeFrame bs inv
  | portAnswer ok => exact inv_congr (s := s) rfl rfl rfl inv

/-! ### The commands -/

theorem inv_runAbort (inv : s.Inv) : s.runAbort.Inv := by
  by_cases none : s.arb.xop = .none
  · rwa [runAbort_of_none none]
  · rw [runAbort_of_inFlight none]
    exact inv_endXact (s := s.markAborted) { fits_of_inv inv with nregs_le := (by decide : (0#7).toNat ≤ 125) } _

theorem inv_reject (inv : s.Inv) (op : BitVec 4) (c : Code) : (s.reject op c).Inv := { inv with }

theorem inv_finish_of_atRest (fits : s.Fits) (rest : s.AtRest) (op : BitVec 4) (c : Code) : (s.finish op c).Inv :=
  inv_of_atRest (fits_congr (s := s) rfl rfl rfl rfl rfl fits) rest

theorem inv_runOpen (fits : s.Fits) (rest : s.AtRest) : s.runOpen.Inv := by
  by_cases conn : s.regs.conn = true
  · rw [runOpen_of_conn conn]
    exact inv_finish_of_atRest fits rest _ _
  have closed := Bool.eq_false_iff.2 conn
  by_cases agreed : s.phyAnswer s.regs.arg0 = true
  · rw [runOpen_of_agreed closed agreed]
    have rest' : s.opened.AtRest := congrArg ({ · with port := s.regs.arg0 } : Arbiter → Arbiter) rest
    exact inv_finish_of_atRest (s := s.opened) (fits_congr (s := s) rfl rfl rfl rfl rfl fits) rest' _ _
  · rw [runOpen_of_refused closed (Bool.eq_false_iff.2 agreed)]
    exact inv_finish_of_atRest (s := s.phyOpen s.regs.arg0) (fits_congr (s := s) rfl rfl rfl rfl rfl fits) rest _ _

theorem inv_runClose (fits : s.Fits) (rest : s.AtRest) : s.runClose.Inv := by
  cases conn : s.regs.conn with
  | true =>
    rw [runClose_of_conn conn]
    exact inv_finish_of_atRest (s := s.closed) (fits_congr (s := s) rfl rfl rfl rfl rfl fits) rest _ _
  | false =>
    rw [runClose_of_no_conn conn]
    exact inv_finish_of_atRest fits rest _ _

theorem inv_startRequest (fits : s.Fits) (f : Byte) {op : XOp} (xop : op ≠ .none) (conn : s.regs.conn = true)
    (read_count : op = .read → s.regs.arg1 ≠ 0#16 ∧ s.regs.arg1.toNat ≤ 125) : (s.startRequest f op).Inv :=
  inv_startXact (s := s.accept.encFrame f) (fits_encFrame f (fits_congr (s := s) rfl rfl rfl rfl rfl fits)) xop conn
    (by decide : 8#9 ≠ 0#9) rfl read_count

/-- Every command keeps the invariants. -/
theorem inv_command {w : Word} (inv : s.Inv) (runs : exec (decodeCommand w) s = .next t) : t.Inv := by
  have fits : s.accept.Fits := fits_congr (s := s) rfl rfl rfl rfl rfl (fits_of_inv inv)
  have rest (free : s.busy = false) : s.accept.AtRest :=
    show s.AtRest from atRest_of_inv inv (busy_eq_false_iff.1 free)
  apply exec_command_cases (motive := State.Inv) runs
  case nop => exact inv
  case rejected => exact inv_reject inv
  case aborted => exact inv_runAbort inv
  case crc => exact fun free _ =>
    inv_of_atRest (s := s.accept.runCrc) (fits_congr (s := s.accept) rfl rfl rfl rfl rfl fits) (rest free)
  case encrd => exact fun free _ => inv_finish_of_atRest (fits_encFrame _ fits) (rest free) _ _
  case encwr => exact fun free _ => inv_finish_of_atRest (fits_encFrame _ fits) (rest free) _ _
  case decode =>
    intro free _
    have rest' : s.decoded.2.AtRest := by
      rw [State.AtRest, State.decoded, decodeResponse_arb]
      exact rest free
    exact inv_finish_of_atRest (fits_decodeResponse (by simpa using inv.rxlen_le) fits) rest' _ _
  case openPort => exact fun free _ => inv_runOpen fits (rest free)
  case closePort => exact fun free _ => inv_runClose fits (rest free)
  case refused => exact fun free op c _ _ => inv_finish_of_atRest fits (rest free) op c
  case read => exact fun _ _ conn nonzero few =>
    inv_startRequest (fits_of_inv inv) _ (by decide) conn fun _ => ⟨nonzero, few⟩
  case write => exact fun _ _ conn => inv_startRequest (fits_of_inv inv) _ (by decide) conn nofun
  case raw => exact fun _ _ conn txlen => inv_startXact fits (by decide) conn txlen rfl nofun

end Halves

/-! ### The obligations -/

/-- Settles O53: the reset state is at rest, and owns no request. -/
theorem invAtReset : Obligations.InvAtReset := ⟨inv_reset, nofun, nofun⟩

/-- Settles O54: a step is nothing, a command, or a reaction. -/
theorem stepKeepsInv : Obligations.StepKeepsInv := by
  intro s t inv h
  obtain ⟨-, rfl⟩ | ⟨e, cs, -, ⟨w, -, runs⟩ | ⟨-, rfl⟩⟩ := step_inversion h
  · exact inv
  all_goals have taken : (s.withClocks cs).Inv := inv_congr (s := s) rfl rfl rfl inv
  · exact inv_command taken runs
  · exact inv_react e taken

end Sys2Proof.Machine
end

section
/-! PROOFS. What a step can do to a transaction, said once: an event lets it go on or ends it, and a command accepted
completes or starts one. The step invariants follow (10_state.md R25, R26, R44; 20_memory.md R76; 42_transaction.md R133,
R157). -/

namespace Sys2Proof.Machine

/-! ### An event: the transaction goes on, or ends -/

/-- From s to t the transaction in flight, if there is one, goes on: nothing completes and no phase is entered but
forwards. -/
structure State.GoesOn (s t : State) : Prop where
  result : t.regs.result = s.regs.result
  done : t.regs.done = s.regs.done
  xop : t.arb.xop = s.arb.xop
  idle : s.arb.phase = .idle → t.arb.phase = .idle
  guard : t.arb.phase = .guard → s.arb.phase = .guard
  tx : t.arb.phase = .tx → s.arb.phase = .guard ∨ s.arb.phase = .tx
  txptr : s.arb.phase = .tx → t.arb.phase = .tx → s.arb.txptr.toNat < s.regs.txlen.toNat →
    s.arb.txptr.toNat ≤ t.arb.txptr.toNat ∧ t.arb.txptr.toNat < t.regs.txlen.toNat

/-- From s to t a transaction ends under its own opcode (R138). -/
structure State.Ends (s t : State) : Prop where
  done : t.regs.done = true
  op : t.regs.result.op = s.arb.xop.op
  phase : t.arb.phase = .idle
  xop : t.arb.xop = .none
  inFlight : s.arb.phase ≠ .idle ∨ s.arb.xop ≠ .none

/-- What an event that is neither a reset nor a command accepted can do. -/
structure State.Reacts (s t : State) : Prop where
  conn : t.regs.conn = true → s.regs.conn = true
  course : s.GoesOn t ∨ s.Ends t

section Reacts

variable {s t u : State}

theorem goesOn_trans (first : s.GoesOn u) (second : u.GoesOn t) : s.GoesOn t where
  result := second.result.trans first.result
  done := second.done.trans first.done
  xop := second.xop.trans first.xop
  idle h := second.idle (first.idle h)
  guard h := first.guard (second.guard h)
  tx h := (second.tx h).elim (fun g => .inl (first.guard g)) first.tx
  txptr hs ht left := by
    have hu : u.arb.phase = .tx := (second.tx ht).resolve_left fun g => by
      have := first.guard g
      rw [hs] at this
      cases this
    have before := first.txptr hs hu left
    have after := second.txptr hu ht before.2
    exact ⟨before.1.trans after.1, after.2⟩

theorem reacts_trans (first : s.Reacts u) (second : u.Reacts t) : s.Reacts t := by
  refine ⟨fun h => first.conn (second.conn h), ?_⟩
  obtain goes | ends := first.course
  · obtain goes' | ends' := second.course
    · exact .inl (goesOn_trans goes goes')
    · refine .inr ⟨ends'.done, by rw [ends'.op, goes.xop], ends'.phase, ends'.xop, ?_⟩
      exact ends'.inFlight.imp (mt goes.idle) fun h => goes.xop ▸ h
  · obtain goes' | ends' := second.course
    · exact .inr ⟨goes'.done.trans ends.done, by rw [goes'.result, ends.op], goes'.idle ends.phase,
        goes'.xop.trans ends.xop, ends.inFlight⟩
    · exact absurd ends.phase (ends'.inFlight.resolve_right (not_not.2 ends.xop))

/-- PHASE, TXPTR and TXLEN kept: the transaction goes on where it was. -/
theorem goesOn_of_same_phase (result : t.regs.result = s.regs.result) (done : t.regs.done = s.regs.done)
    (txlen : t.regs.txlen = s.regs.txlen) (xop : t.arb.xop = s.arb.xop) (phase : t.arb.phase = s.arb.phase)
    (txptr : t.arb.txptr = s.arb.txptr) : s.GoesOn t where
  result := result
  done := done
  xop := xop
  idle h := phase.trans h
  guard h := phase.symm.trans h
  tx h := .inr (phase.symm.trans h)
  txptr _ _ left := by rw [txptr, txlen]; exact ⟨le_rfl, left⟩

theorem reacts_refl (s : State) : s.Reacts s := ⟨id, .inl (goesOn_of_same_phase rfl rfl rfl rfl rfl rfl)⟩

/-- A later phase entered, that is neither IDLE, GUARD nor TX. -/
theorem goesOn_of_later_phase (result : t.regs.result = s.regs.result) (done : t.regs.done = s.regs.done)
    (xop : t.arb.xop = s.arb.xop) (notIdle : s.arb.phase ≠ .idle) (later : t.arb.phase = .wait ∨ t.arb.phase = .accum) :
    s.GoesOn t where
  result := result
  done := done
  xop := xop
  idle h := absurd h notIdle
  guard h := by simp [h] at later
  tx h := by simp [h] at later
  txptr _ h := by simp [h] at later

theorem ends_endXact (c : Code) (xop : u.arb.xop = s.arb.xop) (inFlight : s.arb.phase ≠ .idle ∨ s.arb.xop ≠ .none) :
    s.Ends (u.endXact c) :=
  ⟨rfl, congrArg XOp.op xop, rfl, rfl, inFlight⟩

/-! ### Each event -/

theorem reacts_onTick (s : State) : s.Reacts s.onTick := by
  cases phase : s.arb.phase with
  | idle => rw [onTick_of_idle phase]; exact reacts_refl s
  | tx => rw [onTick_of_tx phase]; exact reacts_refl s
  | guard =>
    rw [onTick_of_guard phase, show s.tickGuard = _ from tickGuard_withGcnt s.arb.gcnt]
    split_ifs
    · refine ⟨id, .inl ⟨rfl, rfl, rfl, fun h => ?_, fun h => ?_, fun _ => .inl phase, fun h => ?_⟩⟩
      · rw [phase] at h; cases h
      · cases h
      · rw [phase] at h; cases h
    · exact ⟨id, .inl (goesOn_of_same_phase (s := s) rfl rfl rfl rfl rfl rfl)⟩
  | wait =>
    rw [onTick_of_wait phase, show s.tickWait = _ from tickWait_withTocnt s.arb.tocnt]
    split_ifs
    · exact ⟨id, .inr (ends_endXact (s := s) _ rfl (.inl (by simp [phase])))⟩
    · exact ⟨id, .inl (goesOn_of_same_phase (s := s) rfl rfl rfl rfl rfl rfl)⟩
  | accum =>
    rw [onTick_of_accum phase, show s.tickAccum = _ from tickAccum_withGapcnt s.arb.gapcnt]
    split_ifs
    · refine ⟨fun h => by rwa [completeXact_regs_conn] at h, .inr ⟨completeXact_regs_done _, ?_, ?_, ?_, .inl ?_⟩⟩
      · exact completeXact_regs_result_op _
      · rw [completeXact_arb]; rfl
      · rw [completeXact_arb]; rfl
      · simp [phase]
    · exact ⟨id, .inl (goesOn_of_same_phase (s := s) rfl rfl rfl rfl rfl rfl)⟩

theorem reacts_rxStore (s : State) (b : Byte) : s.Reacts (s.rxStore b) :=
  ⟨by rw [rxStore_regs_conn]; exact id, .inl (goesOn_of_same_phase (rxStore_regs_result s b) (rxStore_regs_done s b)
    (rxStore_regs_txlen s b) (by rw [rxStore_arb]) (by rw [rxStore_arb]) (by rw [rxStore_arb]))⟩

theorem reacts_enterAccum (notIdle : s.arb.phase ≠ .idle) : s.Reacts s.enterAccum :=
  ⟨id, .inl (goesOn_of_later_phase rfl rfl rfl notIdle (.inr rfl))⟩

theorem reacts_onRxByte (s : State) (b : Byte) : s.Reacts (s.onRxByte b) := by
  by_cases discarding : s.arb.phase = .idle ∨ s.arb.phase = .guard
  · rw [onRxByte_of_discarding discarding]
    exact ⟨id, .inl (goesOn_of_same_phase rfl rfl rfl rfl rfl rfl)⟩
  obtain ⟨idle, guard⟩ := not_or.1 discarding
  obtain tx | listening := phase_of_storing guard idle
  · rw [onRxByte_of_tx tx]
    exact reacts_rxStore s b
  · rw [onRxByte_of_listening listening]
    exact reacts_trans (reacts_rxStore s b) (reacts_enterAccum (by rwa [rxStore_arb]))

theorem reacts_onRxFrame (s : State) (bs : List Byte) : s.Reacts (s.onRxFrame bs) := by
  induction bs generalizing s with
  | nil => exact reacts_refl s
  | cons b bs ih => exact reacts_trans (reacts_onRxByte s b) (ih _)

/-- The frame's last byte is out: another phase, or the end. -/
theorem reacts_leaveTx (regs : u.regs = s.regs) (xop : u.arb.xop = s.arb.xop) (notIdle : s.arb.phase ≠ .idle) :
    s.Reacts u.leaveTx := by
  unfold State.leaveTx State.enterWait
  split_ifs
  · exact ⟨by rw [enterAccum_regs, regs]; exact id, .inl (goesOn_of_later_phase (by rw [enterAccum_regs, regs])
      (by rw [enterAccum_regs, regs]) xop notIdle (.inr rfl))⟩
  · exact ⟨by rw [endXact_regs_conn, regs]; exact id, .inr (ends_endXact _ xop (.inl notIdle))⟩
  · exact ⟨by rw [regs]; exact id, .inl (goesOn_of_later_phase (congrArg Regs.result regs) (congrArg Regs.done regs) xop
      notIdle (.inl rfl))⟩

theorem reacts_onTxTake (s : State) : s.Reacts s.onTxTake := by
  by_cases tx : s.arb.phase = .tx
  case neg => rw [onTxTake_of_ne_tx tx]; exact reacts_refl s
  rw [onTxTake_of_tx tx, takeTx_eq]
  split_ifs with last
  · exact reacts_leaveTx rfl rfl (by simp [tx])
  · refine ⟨id, .inl ⟨rfl, rfl, rfl, id, id, .inr, fun _ _ left => ?_⟩⟩
    have ptr := toNat_txptr_sentOne left
    have other : s.sentOne.arb.txptr.toNat ≠ s.regs.txlen.toNat := fun h => last (BitVec.eq_of_toNat_eq h)
    have txlen : s.sentOne.regs.txlen = s.regs.txlen := rfl
    rw [txlen]
    omega

theorem reacts_takeMany (n : Nat) (s : State) : s.Reacts (State.takeMany n s) := by
  induction n generalizing s with
  | zero => exact reacts_refl s
  | succ n ih => exact reacts_trans (reacts_onTxTake s) (ih _)

theorem reacts_onTakeFrame (s : State) (bs : List Byte) : s.Reacts (s.onTakeFrame bs) := by
  unfold State.onTakeFrame
  split_ifs
  · exact reacts_takeMany _ s
  · exact reacts_refl s

theorem reacts_onTxError (s : State) : s.Reacts s.onTxError := by
  by_cases tx : s.arb.phase = .tx
  · rw [onTxError_of_tx tx]
    exact ⟨id, .inr (ends_endXact _ rfl (.inl (by simp [tx])))⟩
  · rw [onTxError_of_ne_tx tx]
    exact reacts_refl s

theorem reacts_onLinkLost (s : State) : s.Reacts s.onLinkLost := by
  cases conn : s.regs.conn with
  | false => rw [onLinkLost_of_no_conn conn]; exact reacts_refl s
  | true =>
    rw [onLinkLost_of_conn conn]
    split_ifs with none
    · exact ⟨fun _ => conn, .inl (goesOn_of_same_phase (s := s) rfl rfl rfl rfl rfl rfl)⟩
    · exact ⟨fun _ => conn, .inr (ends_endXact (s := s) _ rfl (.inr none))⟩

theorem reacts_hostWrite (s : State) (a : HostAddr) (v : Word) : s.Reacts (s.hostWrite a v) := by
  cases busy : s.busy with
  | true => rw [hostWrite_of_busy a v busy]; exact reacts_refl s
  | false =>
    have idle := busy_eq_false_iff.1 busy
    obtain ⟨arb, -, conn, done, -, -, -, result, -⟩ := poke_recordAsIn s a v
    rw [hostWrite_of_free a v busy]
    refine ⟨by rw [conn]; exact id, .inl ⟨result, done, by rw [arb], by rw [arb]; exact id, by rw [arb]; exact id,
      by rw [arb]; exact .inr, fun tx => ?_⟩⟩
    rw [idle] at tx
    cases tx

/-- Every event but a reset lets the transaction go on, or ends it. -/
theorem reacts_react (s : State) {e : Event} (notReset : e ≠ .rst) : s.Reacts (s.react e) := by
  cases e with
  | hostWrite a v => exact reacts_hostWrite s a v
  | hostRead a => exact ⟨id, .inl (goesOn_of_same_phase (s := s) rfl rfl rfl rfl rfl rfl)⟩
  | tick => exact reacts_onTick s
  | rxByte b => exact reacts_onRxByte s b
  | txTake => exact reacts_onTxTake s
  | txError => exact reacts_onTxError s
  | linkLost => exact reacts_onLinkLost s
  | rst => exact absurd rfl notReset
  | rxFrame bs => exact reacts_onRxFrame s bs
  | takeFrame bs => exact reacts_onTakeFrame s bs
  | portAnswer ok => exact ⟨id, .inl (goesOn_of_same_phase (s := s) rfl rfl rfl rfl rfl rfl)⟩

theorem reacts_runAbort (s : State) : s.Reacts s.runAbort := by
  by_cases none : s.arb.xop = .none
  · rw [runAbort_of_none none]
    exact reacts_refl s
  · rw [runAbort_of_inFlight none]
    exact ⟨id, .inr (ends_endXact (s := s) _ rfl (.inr none))⟩

/-! ### What BUSY freezes (R44, R64) -/

/-- Every event but a reset leaves the request while BUSY = 1. -/
theorem react_requestAsIn (busy : s.busy = true) {e : Event} (notReset : e ≠ .rst) : (s.react e).requestAsIn s := by
  cases e with
  | hostWrite a v => rw [State.react, hostWrite_of_busy a v busy]; exact requestAsIn_refl s
  | hostRead a => exact ⟨rfl, rfl, rfl, rfl, rfl, rfl, rfl, rfl, rfl⟩
  | tick => exact onTick_requestAsIn s
  | rxByte b => exact onRxByte_requestAsIn s b
  | txTake => exact onTxTake_requestAsIn s
  | txError => exact onTxError_requestAsIn s
  | linkLost => exact onLinkLost_requestAsIn s
  | rst => exact absurd rfl notReset
  | rxFrame bs => exact onRxFrame_requestAsIn s bs
  | takeFrame bs => exact onTakeFrame_requestAsIn s bs
  | portAnswer ok => exact ⟨rfl, rfl, rfl, rfl, rfl, rfl, rfl, rfl, rfl⟩

theorem runAbort_requestAsIn (s : State) : s.runAbort.requestAsIn s := by
  by_cases none : s.arb.xop = .none
  · rw [runAbort_of_none none]
    exact requestAsIn_refl s
  · rw [runAbort_of_inFlight none]
    exact ⟨rfl, rfl, rfl, rfl, rfl, rfl, rfl, rfl, rfl⟩

/-! ### A command accepted: it completes, or starts a transaction -/

/-- From s to t a command completes at issue. -/
structure State.Completes (s t : State) (w : Word) : Prop where
  done : t.regs.done = true
  op : t.regs.result.op = w.extractLsb' 0 4
  phase : t.arb.phase = s.arb.phase
  xop : t.arb.xop = s.arb.xop

/-- From s to t a command starts a transaction. -/
structure State.Starts (s t : State) (w : Word) : Prop where
  word : w = 0x0007#16 ∨ w = 0x0008#16 ∨ w = 0x0009#16
  result : t.regs.result = s.regs.result
  held : t.RequestHeld

/-- What the word w, written to CMD with BUSY = 0 and accepted, can do. -/
structure State.Runs (s t : State) (w : Word) : Prop where
  free : s.busy = false
  low : 1 ≤ w.toNat
  high : w.toNat ≤ 9
  accepted : t.Accepted
  conn : t.regs.conn = true → s.regs.conn = true ∨ w = 0x0005#16
  course : s.Completes t w ∨ s.Starts t w

theorem requestHeld_of_none (none : s.arb.xop = .none) : s.RequestHeld := by
  constructor <;> intro h <;> rw [none] at h <;> cases h

/-- A command that completes at issue under its own opcode, PHASE and XOP kept. -/
theorem runs_finish (op : BitVec 4) (c : Code) (low : 1 ≤ op.toNat) (high : op.toNat ≤ 9) (free : s.busy = false)
    (accepted : u.Accepted) (conn : u.regs.conn = true → s.regs.conn = true ∨ op.setWidth 16 = 0x0005#16)
    (phase : u.arb.phase = s.arb.phase) (xop : u.arb.xop = s.arb.xop) : s.Runs (u.finish op c) (op.setWidth 16) := by
  have word : (op.setWidth 16).toNat = op.toNat := by rw [BitVec.toNat_setWidth]; omega
  have opcode : (op.setWidth 16).extractLsb' 0 4 = op := by
    apply BitVec.eq_of_toNat_eq
    rw [BitVec.extractLsb'_toNat, word, Nat.shiftRight_zero]
    omega
  exact ⟨free, word ▸ low, word ▸ high, accepted_finish accepted op c, conn, .inl ⟨rfl, opcode.symm, phase, xop⟩⟩

theorem runs_runOpen (free : s.busy = false) : s.Runs s.accept.runOpen 0x0005#16 := by
  have accepted := accepted_accept s
  by_cases conn : s.regs.conn = true
  · rw [runOpen_of_conn (s := s.accept) conn]
    exact runs_finish 0x5#4 _ (by decide) (by decide) free accepted (fun _ => .inr rfl) rfl rfl
  have closed : s.accept.regs.conn = false := Bool.eq_false_iff.2 conn
  by_cases agreed : s.accept.phyAnswer s.accept.regs.arg0 = true
  · rw [runOpen_of_agreed closed agreed]
    exact runs_finish 0x5#4 _ (by decide) (by decide) free
      ⟨accepted.late, accepted.ovf, accepted.aborted, accepted.reject⟩ (fun _ => .inr rfl) rfl rfl
  · rw [runOpen_of_refused closed (Bool.eq_false_iff.2 agreed)]
    exact runs_finish 0x5#4 _ (by decide) (by decide) free (accepted_phyOpen accepted _) (fun _ => .inr rfl) rfl rfl

theorem runs_runClose (free : s.busy = false) : s.Runs s.accept.runClose 0x0006#16 := by
  have accepted := accepted_accept s
  cases conn : s.regs.conn with
  | true =>
    rw [runClose_of_conn (s := s.accept) conn]
    exact runs_finish 0x6#4 _ (by decide) (by decide) free
      ⟨accepted.late, accepted.ovf, accepted.aborted, accepted.reject⟩ (fun _ => .inl conn) rfl rfl
  | false =>
    rw [runClose_of_no_conn (s := s.accept) conn]
    exact runs_finish 0x6#4 _ (by decide) (by decide) free accepted .inl rfl rfl

/-- READ's transaction offers the request of its operands (R135). -/
theorem requestHeld_startRead (s : State) : (s.startRequest 0x03#8 .read).RequestHeld := by
  refine ⟨fun _ => ⟨by simp [State.startRequest], ?_⟩, fun h => ?_⟩
  · rw [txBytes_startRequest]
    simp [State.startRequest]
  · rw [State.startRequest, startXact_arb_xop] at h
    cases h

/-- WRITE's transaction offers the request of its operands (R136). -/
theorem requestHeld_startWrite (s : State) : (s.startRequest 0x06#8 .write).RequestHeld := by
  refine ⟨fun h => ?_, fun _ => ⟨by simp [State.startRequest], ?_⟩⟩
  · rw [State.startRequest, startXact_arb_xop] at h
    cases h
  · rw [txBytes_startRequest]
    simp [State.startRequest]

/-- A RAW holds no request of READ or WRITE. -/
theorem requestHeld_startRaw (s : State) : (s.startXact .raw).RequestHeld := by
  constructor <;> intro h <;> rw [startXact_arb_xop] at h <;> cases h

/-- A command word leaves the transaction to go on or ends it, or is accepted and runs. -/
theorem command_effect {w : Word} (runs : exec (decodeCommand w) s = .next t) :
    s.Reacts t ∧ t.requestAsIn s ∨ s.Runs t w := by
  have accepted := accepted_accept s
  apply exec_command_cases (motive := fun t => s.Reacts t ∧ t.requestAsIn s ∨ s.Runs t w) runs
  case nop => exact .inl ⟨reacts_refl s, requestAsIn_refl s⟩
  case rejected => exact fun op c => .inl ⟨⟨id, .inl (goesOn_of_same_phase (s := s) rfl rfl rfl rfl rfl rfl)⟩,
    ⟨rfl, rfl, rfl, rfl, rfl, rfl, rfl, rfl, rfl⟩⟩
  case aborted => exact .inl ⟨reacts_runAbort s, runAbort_requestAsIn s⟩
  case crc =>
    rintro free rfl
    exact .inr ⟨free, by decide, by decide, (acceptedAndDone_runCrc accepted).toAccepted, .inl,
      .inl ⟨rfl, rfl, rfl, rfl⟩⟩
  case encrd =>
    rintro free rfl
    exact .inr (runs_finish 0x2#4 _ (by decide) (by decide) free (accepted_encFrame accepted _) .inl rfl rfl)
  case encwr =>
    rintro free rfl
    exact .inr (runs_finish 0x3#4 _ (by decide) (by decide) free (accepted_encFrame accepted _) .inl rfl rfl)
  case decode =>
    rintro free rfl
    have arb : s.decoded.2.arb = s.arb := decodeResponse_arb s.accept s.rxBytes
    have conn : s.decoded.2.regs.conn = s.regs.conn := decodeResponse_regs_conn s.accept s.rxBytes
    exact .inr (runs_finish 0x4#4 _ (by decide) (by decide) free accepted_decoded (fun h => .inl (conn ▸ h))
      (by rw [arb]) (by rw [arb]))
  case openPort => rintro free rfl; exact .inr (runs_runOpen free)
  case closePort => rintro free rfl; exact .inr (runs_runClose free)
  case refused =>
    rintro free op c rfl opcode
    have range : 1 ≤ op.toNat ∧ op.toNat ≤ 9 := by rcases opcode with rfl | rfl | rfl <;> decide
    exact .inr (runs_finish op c range.1 range.2 free accepted .inl rfl rfl)
  case read =>
    rintro free rfl conn - -
    exact .inr ⟨free, by decide, by decide, (started_startRequest s _ _).accepted, fun _ => .inl conn,
      .inr ⟨.inl rfl, (started_startRequest s _ _).result, requestHeld_startRead s⟩⟩
  case write =>
    rintro free rfl conn
    exact .inr ⟨free, by decide, by decide, (started_startRequest s _ _).accepted, fun _ => .inl conn,
      .inr ⟨.inr (.inl rfl), (started_startRequest s _ _).result, requestHeld_startWrite s⟩⟩
  case raw =>
    rintro free rfl conn -
    exact .inr ⟨free, by decide, by decide, accepted_startXact accepted .raw, fun _ => .inl conn,
      .inr ⟨.inr (.inr rfl), startXact_regs_result s.accept .raw, requestHeld_startRaw s.accept⟩⟩

/-! ### A step -/

theorem reacts_withClocks (s : State) (cs : List (List Event)) : s.Reacts (s.withClocks cs) :=
  ⟨id, .inl (goesOn_of_same_phase rfl rfl rfl rfl rfl rfl)⟩

theorem withClocks_requestAsIn (s : State) (cs : List (List Event)) : (s.withClocks cs).requestAsIn s :=
  ⟨rfl, rfl, rfl, rfl, rfl, rfl, rfl, rfl, rfl⟩

/-- Taking an event from the clocks changes nothing that a command runs on. -/
theorem runs_of_withClocks {cs : List (List Event)} {w : Word} (runs : (s.withClocks cs).Runs t w) : s.Runs t w :=
  ⟨runs.free, runs.low, runs.high, runs.accepted, runs.conn,
    runs.course.imp (fun h => ⟨h.done, h.op, h.phase, h.xop⟩) fun h => ⟨h.word, h.result, h.held⟩⟩

/-- A step is a reaction, a command accepted and run, or a reset. -/
theorem step_effect (h : step s = .next t) :
    s.Reacts t ∧ (s.busy = true → t.requestAsIn s) ∨
    (∃ w cs, nextEvent s.env.clocks = some (.hostWrite 0#10 w, cs) ∧ s.Runs t w) ∨
    ∃ cs, nextEvent s.env.clocks = some (.rst, cs) ∧ t = (s.withClocks cs).onReset := by
  obtain ⟨-, rfl⟩ | ⟨e, cs, next, ⟨w, rfl, runs⟩ | ⟨-, rfl⟩⟩ := step_inversion h
  · exact .inl ⟨reacts_refl t, fun _ => requestAsIn_refl t⟩
  · obtain ⟨reacts, request⟩ | runs := command_effect runs
    · exact .inl ⟨reacts_trans (reacts_withClocks s cs) reacts,
        fun _ => requestAsIn_trans (withClocks_requestAsIn s cs) request⟩
    · exact .inr (.inl ⟨w, cs, next, runs_of_withClocks runs⟩)
  · by_cases reset : e = .rst
    · subst reset
      exact .inr (.inr ⟨cs, next, rfl⟩)
    · exact .inl ⟨reacts_trans (reacts_withClocks s cs) (reacts_react _ reset),
        fun busy => requestAsIn_trans (withClocks_requestAsIn s cs) (react_requestAsIn (s := s.withClocks cs) busy reset)⟩

end Reacts

/-! ### The obligations -/

/-- The request stays held where TXBUF, TXLEN and the operands do, under the same command. -/
theorem requestHeld_of_requestAsIn {s t : State} (held : s.RequestHeld) (request : t.requestAsIn s)
    (xop : t.arb.xop = s.arb.xop) : t.RequestHeld := by
  have bytes : t.txBytes = s.txBytes := txBytes_congr request.txlen request.tx request.epoch
  rw [State.RequestHeld, xop, bytes, request.txlen, request.slave, request.arg0, request.arg1]
  exact held

/-- Settles O55: a transaction that goes on keeps its request, and one that starts holds its own. -/
theorem stepKeepsRequestHeld : Obligations.StepKeepsRequestHeld := by
  intro s t inv held h
  obtain ⟨reacts, request⟩ | ⟨w, cs, -, runs⟩ | ⟨cs, -, rfl⟩ := step_effect h
  · obtain goes | ends := reacts.course
    · cases busy : s.busy with
      | true => exact requestHeld_of_requestAsIn held (request busy) goes.xop
      | false => exact requestHeld_of_none (goes.xop.trans (xop_of_idle inv (busy_eq_false_iff.1 busy)))
    · exact requestHeld_of_none ends.xop
  · obtain completes | starts := runs.course
    · exact requestHeld_of_none (completes.xop.trans (xop_of_idle inv (busy_eq_false_iff.1 runs.free)))
    · exact starts.held
  · exact requestHeld_of_none rfl

/-- Settles O56: a command runs only with BUSY = 0. -/
theorem busyFreezesTheRequest : Obligations.BusyFreezesTheRequest := by
  intro s t busy h notReset
  obtain ⟨-, request⟩ | ⟨w, cs, -, runs⟩ | ⟨cs, next, -⟩ := step_effect h
  · exact request busy
  · exact absurd runs.free (by simp [busy])
  · exact absurd next (notReset cs)

/-- Settles O57: RESULT changes where a transaction ends, or where a command completes at issue. -/
theorem resultChangesOnlyAtCompletion : Obligations.ResultChangesOnlyAtCompletion := by
  intro s t h notReset changed
  obtain ⟨reacts, -⟩ | ⟨w, cs, next, runs⟩ | ⟨cs, next, -⟩ := step_effect h
  · have ends := reacts.course.resolve_left fun goes => changed goes.result
    refine ⟨ends.done, fun inv => ⟨busy_eq_false_iff.2 ends.phase, ?_⟩⟩
    have busy : s.busy = true := ends.inFlight.elim busy_eq_true_iff.2 inv.busy_iff.2
    rw [if_pos busy]
    exact ends.op
  · have completes := runs.course.resolve_right fun starts => changed starts.result
    have idle := busy_eq_false_iff.1 runs.free
    refine ⟨completes.done, fun _ => ⟨busy_eq_false_iff.2 (completes.phase.trans idle), ?_⟩⟩
    rw [if_neg (by simp [runs.free])]
    exact ⟨w, cs, next, runs.low, runs.high, completes.op, runs.accepted⟩
  · exact absurd next (notReset cs)

/-- Settles O58: only OPEN's case of a command run can set CONN. -/
theorem onlyOpenConnects : Obligations.OnlyOpenConnects := by
  intro s t h closed opened
  have notConn : s.regs.conn ≠ true := by simp [closed]
  obtain ⟨reacts, -⟩ | ⟨w, cs, next, runs⟩ | ⟨cs, -, rfl⟩ := step_effect h
  · exact absurd (reacts.conn opened) notConn
  · obtain rfl := (runs.conn opened).resolve_left notConn
    exact ⟨cs, next⟩
  · cases opened

/-- A command that leaves another phase than it found has started a transaction. -/
theorem commandsTransaction_of_runs {s t : State} {w : Word} {cs : List (List Event)}
    (next : nextEvent s.env.clocks = some (.hostWrite 0#10 w, cs)) (runs : s.Runs t w)
    (moved : t.arb.phase ≠ s.arb.phase) : Claims.CommandsTransaction s :=
  have starts := runs.course.resolve_left fun completes => moved completes.phase
  ⟨runs.free, w, cs, next, starts.word⟩

/-- Settles O59: an event enters no phase but forwards, and a command that enters one starts a transaction. -/
theorem transactionsStartOnlyOnCommand : Obligations.TransactionsStartOnlyOnCommand := by
  intro s t h
  obtain ⟨reacts, -⟩ | ⟨w, cs, next, runs⟩ | ⟨cs, -, rfl⟩ := step_effect h
  · obtain goes | ends := reacts.course
    · refine ⟨fun free busy => ?_, fun guard other => absurd (goes.guard guard) other,
        fun tx other => .inl ((goes.tx tx).resolve_right other), fun inv stx ttx => (goes.txptr stx ttx (inv.tx_ptr stx)).1⟩
      exact absurd (goes.idle (busy_eq_false_iff.1 free)) (busy_eq_true_iff.1 busy)
    · have idle := ends.phase
      refine ⟨fun _ busy => absurd idle (busy_eq_true_iff.1 busy), fun guard => ?_, fun tx => ?_, fun _ _ tx => ?_⟩
      · rw [idle] at guard; cases guard
      · rw [idle] at tx; cases tx
      · rw [idle] at tx; cases tx
  · have idle := busy_eq_false_iff.1 runs.free
    refine ⟨fun _ busy => ?_, fun guard other => ?_, fun tx other => .inr ?_, fun _ tx => ?_⟩
    · exact commandsTransaction_of_runs next runs (by rw [idle]; exact busy_eq_true_iff.1 busy)
    · exact commandsTransaction_of_runs next runs (by rw [guard]; exact Ne.symm other)
    · exact commandsTransaction_of_runs next runs (by rw [tx]; exact Ne.symm other)
    · rw [idle] at tx; cases tx
  · exact ⟨fun _ busy => (nomatch busy), fun guard => (nomatch guard), fun tx => (nomatch tx), fun _ _ tx => (nomatch tx)⟩

end Sys2Proof.Machine
end

section
/-! PROOFS. A whole READ, phase by phase (42_transaction.md R134, R135, R138, R140, R142, R145, R148, R151): what the run
has reached at the end of each phase is the next one's start. -/

namespace Sys2Proof.Machine

/-! ### What completion leaves in STATUS and in the record of outputs -/

section Complete

variable {s : State}

theorem completeXact_env (s : State) : s.completeXact.env = s.env := by
  rw [completeXact_eq]
  split_ifs
  · rfl
  · rw [endXact_env, burstCheck_env]

theorem accepted_completeXact (accepted : s.Accepted) : s.completeXact.Accepted := by
  rw [completeXact_eq, accepted.ovf, if_neg Bool.false_ne_true]
  refine ⟨?_, ?_, ?_, ?_⟩
  · rw [endXact_regs_late, burstCheck_regs_late, accepted.late]
  · rw [endXact_regs_ovf, burstCheck_regs_ovf, accepted.ovf]
  · rw [endXact_regs_aborted, burstCheck_regs_aborted, accepted.aborted]
  · rw [endXact_regs_reject, burstCheck_regs_reject, accepted.reject]

/-- STATUS of a core that is idle, connected and done with OK, no other flag set (R25). -/
theorem status_of_done (accepted : s.Accepted) (free : s.busy = false) (conn : s.regs.conn = true)
    (done : s.regs.done = true) (ok : s.regs.result.code = .ok) : s.status = 0x0006#16 := by
  rw [State.status, State.err, State.rej, free, conn, done, ok, accepted.late, accepted.ovf, accepted.aborted,
    accepted.reject, busy_eq_false_iff.1 free]
  decide

end Complete

/-! ### The guard time (R134, R140) -/

/-- Once the guard time has run out, the transaction that was started is in TX at byte 0. -/
theorem tickMany_guard_startXact (u : State) (op : XOp) :
    ∃ t, State.tickMany u.regs.guard.toNat (u.startXact op) = t ∧ t.regs = (u.startXact op).regs ∧ t.bufs = u.bufs ∧
      t.env = u.env ∧ t.arb.phase = .tx ∧ t.arb.txptr = 0#9 ∧ t.arb.xop = op := by
  refine ⟨_, rfl, ?_⟩
  by_cases noGuard : u.regs.guard = 0#8
  · rw [noGuard, startXact_of_no_guard noGuard]
    exact ⟨rfl, rfl, rfl, rfl, rfl, rfl⟩
  · have gcnt : (u.startXact op).arb.gcnt = u.regs.guard := by rw [startXact_gcnt, if_neg noGuard]
    have phase : (u.startXact op).arb.phase = .guard := by rw [startXact_phase, if_neg noGuard]
    have expires := (guardEndsAtItsTick (u.startXact op) phase (by rwa [gcnt])).2
    rw [gcnt] at expires
    rw [expires]
    exact ⟨rfl, startXact_bufs u op, startXact_env u op, rfl, rfl, startXact_arb_xop u op⟩

/-! ### The phases of a READ -/

/-- The READ issued in s is in phase p at t: no byte of the reply has come, and these bytes have been sent. -/
structure State.ReadAt (s t : State) (p : Phase) (sent : List Byte) : Prop where
  regs : t.regs = (s.startRequest 0x03#8 .read).regs
  xop : t.arb.xop = .read
  phase : t.arb.phase = p
  trace : t.env.trace = s.env.trace ++ sent.map .send

section Read

variable {s t : State} {p : Phase} {sent : List Byte}

theorem readAt_rxlen (at_p : s.ReadAt t p sent) : t.regs.rxlen = 0#9 := by
  rw [at_p.regs, State.startRequest, startXact_regs_rxlen]

theorem readAt_timeout (at_p : s.ReadAt t p sent) : t.regs.timeout = s.regs.timeout := by
  rw [at_p.regs, State.startRequest, startXact_regs_timeout]
  rfl

theorem readAt_gap (at_p : s.ReadAt t p sent) : t.regs.gap = s.regs.gap := by
  rw [at_p.regs, State.startRequest, startXact_regs_gap]
  rfl

theorem readAt_arg1 (at_p : s.ReadAt t p sent) : t.regs.arg1 = s.regs.arg1 := by
  rw [at_p.regs, State.startRequest, startXact_regs_arg1]
  rfl

theorem readAt_conn (at_p : s.ReadAt t p sent) : t.regs.conn = s.regs.conn := by
  rw [at_p.regs, State.startRequest, startXact_regs_conn]
  rfl

theorem readAt_accepted (at_p : s.ReadAt t p sent) : t.Accepted := by
  obtain ⟨late, ovf, aborted, reject⟩ := (started_startRequest s 0x03#8 .read).accepted
  rw [← at_p.regs] at late ovf aborted reject
  exact ⟨late, ovf, aborted, reject⟩

/-- The request of a READ (R84). -/
def State.readRequest (s : State) : List Byte := shortFrame s.regs.slave 0x03#8 s.regs.arg0 s.regs.arg1

/-- After the guard time READ's request is offered from its first byte. -/
theorem readAt_tx (s : State) :
    ∃ t, State.tickMany s.regs.guard.toNat (s.startRequest 0x03#8 .read) = t ∧ s.ReadAt t .tx [] ∧
      t.arb.txptr = 0#9 ∧ t.txBytes = s.readRequest := by
  obtain ⟨t, runs, regs, bufs, env, phase, txptr, xop⟩ := tickMany_guard_startXact (s.accept.encFrame 0x03#8) .read
  refine ⟨t, runs, ⟨regs, xop, phase, by rw [env]; exact (List.append_nil _).symm⟩, txptr, ?_⟩
  have bytes : t.txBytes = (s.startRequest 0x03#8 .read).txBytes :=
    txBytes_congr (congrArg Regs.txlen regs) (by rw [bufs, State.startRequest, startXact_bufs])
      (by rw [env, State.startRequest, startXact_env])
  rw [bytes, txBytes_startRequest]
  rfl

/-- The PHY takes the request, and the wait for the reply starts. -/
theorem readAt_wait (at_tx : s.ReadAt t .tx []) (first : t.arb.txptr = 0#9) (bytes : t.txBytes = s.readRequest)
    (timeout : s.regs.timeout ≠ 0#16) :
    ∃ u, exec (.rdreq s.regs.slave s.regs.arg0 s.regs.arg1) t = .next u ∧ s.ReadAt u .wait s.readRequest ∧
      u.arb.tocnt = s.regs.timeout := by
  have length : t.regs.txlen.toNat = s.readRequest.length := by rw [← bytes, length_txBytes]
  obtain ⟨u, runs, env, -, goes⟩ :=
    requestFramesAreSent.1 s.regs.slave s.regs.arg0 s.regs.arg1 t at_tx.phase first length bytes
  rw [readAt_rxlen at_tx, if_neg (not_not.2 rfl), readAt_timeout at_tx, if_neg timeout] at goes
  obtain ⟨arb, regs⟩ := goes
  refine ⟨u, runs, ⟨regs.trans at_tx.regs, by rw [arb]; exact at_tx.xop, by rw [arb], ?_⟩, by rw [arb]⟩
  rw [env, at_tx.trace, List.map_nil, List.append_nil]
  rfl

/-- Ticks before the timeout leave the wait. -/
theorem readAt_wait_tickMany (at_wait : s.ReadAt t .wait sent) {k : Nat} (h : k < t.arb.tocnt.toNat) :
    s.ReadAt (State.tickMany k t) .wait sent := by
  have running : t.arb.tocnt ≠ 0#16 := by
    intro zero
    rw [zero] at h
    exact absurd h (Nat.not_lt_zero k)
  rw [(waitTimesOutAtItsTick t at_wait.phase running).1 k h]
  exact ⟨at_wait.regs, at_wait.xop, at_wait.phase, at_wait.trace⟩

/-- The reply to the READ issued in s has arrived at t, whole, and the gap after it has begun. -/
structure State.ReplyAt (s t : State) (bs : List Byte) : Prop where
  accepted : t.Accepted
  conn : t.regs.conn = s.regs.conn
  arg1 : t.regs.arg1 = s.regs.arg1
  rxlen_le : t.regs.rxlen.toNat ≤ 256
  rxBytes : t.rxBytes = bs
  xop : t.arb.xop = .read
  phase : t.arb.phase = .accum
  gapcnt : t.arb.gapcnt = s.regs.gap
  trace : t.env.trace = s.env.trace ++ s.readRequest.map .send

/-- A response of up to 125 registers that comes in the wait is held whole. -/
theorem replyAt_of_wait (at_wait : s.ReadAt t .wait s.readRequest) (a : Byte) {ws : List Word} (few : ws.length ≤ 125) :
    ∃ u, exec (.rdrsp a ws) t = .next u ∧ s.ReplyAt u (readResponse a ws) := by
  have empty : t.regs.rxlen.toNat = 0 := by rw [readAt_rxlen at_wait]; rfl
  have none : t.rxBytes = [] := List.eq_nil_of_length_eq_zero ((length_rxBytes t).trans empty)
  have phase := at_wait.phase
  obtain ⟨u, runs, -, stored, -⟩ := responseFramesArrive.1 a ws t
  obtain ⟨bytes, rxlen, regs, -, -, env, arb⟩ := stored (by simp [phase]) (by simp [phase]) (by omega)
  have length := length_readResponse a ws
  have accepted := readAt_accepted at_wait
  rw [none, List.nil_append, List.take_of_length_le (by omega)] at bytes
  rw [if_neg (by omega)] at regs
  rw [phase, if_neg (by decide)] at arb
  exact ⟨u, runs, {
    accepted := ⟨by rw [regs]; exact accepted.late, by rw [regs]; exact accepted.ovf,
      by rw [regs]; exact accepted.aborted, by rw [regs]; exact accepted.reject⟩
    conn := by rw [regs]; exact readAt_conn at_wait
    arg1 := by rw [regs]; exact readAt_arg1 at_wait
    rxlen_le := by omega
    rxBytes := bytes
    xop := by rw [arb]; exact at_wait.xop
    phase := by rw [arb]
    gapcnt := by rw [arb]; exact readAt_gap at_wait
    trace := by rw [env]; exact at_wait.trace }⟩

/-- The gap runs out, and the READ completes with the registers of the reply. -/
theorem tickMany_gap_of_reply {a : Byte} {ws : List Word} (reply : s.ReplyAt t (readResponse a ws))
    (gap : s.regs.gap ≠ 0#8) (conn : s.regs.conn = true) (count : ws.length = s.regs.arg1.toNat)
    (few : ws.length ≤ 125) :
    let u := State.tickMany s.regs.gap.toNat t
    u.peek 0x002#10 = 0x0070#16 ∧ u.peek 0x001#10 = 0x0006#16 ∧ u.regs.nregs.toNat = ws.length ∧
      u.env.trace = s.env.trace ++ s.readRequest.map .send ∧
      ∀ j (h : j < ws.length), u.peek (BitVec.ofNat 10 (0x300 + j)) = ws[j] := by
  have expires := (gapEndsTheBurst t reply.phase (by rwa [reply.gapcnt])).2.1
  rw [reply.gapcnt] at expires
  have completes : State.tickMany s.regs.gap.toNat t = (t.withGapcnt 0#8).completeXact := expires
  have arg1 : (t.withGapcnt 0#8).regs.arg1 = s.regs.arg1 := reply.arg1
  have count' : ws.length = (t.withGapcnt 0#8).regs.arg1.toNat := by rw [arg1, count]
  obtain ⟨ok_iff, registers, -, -⟩ := readSucceedsExactlyOnItsReply (t.withGapcnt 0#8) reply.xop reply.accepted.ovf
    reply.rxlen_le (by rw [← count']; exact few)
  have ok := ok_iff.2 ⟨a, ws, count', reply.rxBytes⟩
  obtain ⟨nregs, -, words⟩ := registers a ws count' reply.rxBytes
  have accepted : (t.withGapcnt 0#8).Accepted :=
    ⟨reply.accepted.late, reply.accepted.ovf, reply.accepted.aborted, reply.accepted.reject⟩
  rw [completes]
  refine ⟨by rw [peek_result, ok]; rfl, ?status, nregs, by rw [completeXact_env]; exact reply.trace, words⟩
  case status =>
    rw [peek_status]
    exact status_of_done (accepted_completeXact accepted) (busy_completeXact _)
      ((completeXact_regs_conn _).trans (reply.conn.trans conn)) (completeXact_regs_done _) (by rw [ok])

end Read

/-! ### The obligation -/

/-- Settles O60: guard, request, wait, reply and gap, each from where the one before has ended. -/
theorem readCompletesEndToEnd : Obligations.ReadCompletesEndToEnd := by
  intro s a ws k inv free conn count some_register few early
  have timeout : s.regs.timeout ≠ 0#16 := by
    intro zero
    rw [zero] at early
    exact absurd early (Nat.not_lt_zero k)
  have nonzero : ¬(s.regs.arg1 = 0#16 ∨ 125 < s.regs.arg1.toNat) := by
    rintro (zero | large)
    · rw [zero, BitVec.toNat_zero] at count
      omega
    · omega
  have issued : exec .read s = .next (s.startRequest 0x03#8 .read) := by
    rw [exec_read_of_free free, if_neg (by simp [conn]), if_neg nonzero]
  obtain ⟨_, rfl, at_tx, first, bytes⟩ := readAt_tx s
  obtain ⟨s2, takes, at_wait, tocnt⟩ := readAt_wait at_tx first bytes timeout
  obtain ⟨s3, arrives, reply⟩ := replyAt_of_wait (readAt_wait_tickMany at_wait (tocnt ▸ early)) a few
  exact ⟨_, s2, s3, issued, takes, arrives, tickMany_gap_of_reply reply inv.gap_pos conn count few⟩

end Sys2Proof.Machine
end
